-- ==== Sys2Proof/Word.lean ====
section
/-! DEFINITION. The widths the spec names: bytes, register addresses, bit indexes, the value operand and
the words that enter and leave the core (spec/00_scope.md R6, R8; spec/30_encoding.md R120, R127, R129). -/

namespace Sys2Proof

/-- A register's contents or an 8-bit register address (R6: data width 8 bits, address width 8 bits). -/
abbrev Byte := BitVec 8

/-- A bit index 0 to 7; bit 0 is the least significant bit of a byte (R6, R8). -/
abbrev BitIdx := BitVec 3

/-- The 12-bit unsigned value operand `v` (R120, R125). -/
abbrev Value := BitVec 12

/-- The 32-bit command word `cw` (R120, R132). -/
abbrev CmdWord := BitVec 32

/-- The 16-bit response word `rw` (R127). -/
abbrev RespWord := BitVec 16

/-- The 9-bit diagnostic event word (R129). -/
abbrev DiagWord := BitVec 9

/-- The requester tag `Q<k>` that routes a response to its requester (R253, D24). -/
abbrev Tag := Nat

/-- The opaque bus endpoint reference; the core passes it on and never inspects it (R21, D30). -/
abbrev Endpoint := Nat

end Sys2Proof
end

