-- ==== Sys2Proof/Syntax.lean ====
section
/-! DEFINITION. The abstract operations of spec/30_encoding.md R133, one constructor per row of
spec/opcode_table.json, with the 96 catalogued signals of R126 as a type of their own. -/

namespace Sys2Proof

/-- The five module-indexed signal groups of R50. -/
inductive ModGroup where
  /-- `qsfp<N>_rst`. -/
  | rst
  /-- `qsfp<N>_lpmode`. -/
  | lpmode
  /-- `qsfp<N>_modsel`. -/
  | modsel
  /-- `qsfp<N>_prs`. -/
  | prs
  /-- `qsfp<N>_int`. -/
  | int
deriving DecidableEq, Repr

/-- The five cells of the identity cache (R22), each also a catalogued signal (R126). -/
inductive IdentField where
  | codeVer
  | codeType
  | codeDay
  | codeMonth
  | codeYear
deriving DecidableEq, Repr

/-- The signal catalogue of R126: 5 identity + 4 LED-test + scratch + soft reset + 5 groups of 16 modules
+ hitless + 3 SFP status + SFP transmit enable = 96 signals. `qsfp g k` is the signal of group `g` for
module number `17 + k` (R126: `idx = N - 17`). -/
inductive Signal where
  | ident (f : IdentField)
  | ledTest (k : Fin 4)
  | scratch
  | softRst
  | qsfp (g : ModGroup) (k : Fin 16)
  | hitless
  | sfpStat (k : Fin 3)
  | sfpTxEn
deriving DecidableEq, Repr

/-- The Signal Descriptor that format D carries as an immediate (R121, R133). -/
structure Descriptor where
  /-- Register address. -/
  reg : Byte
  /-- Bit index 0 to 7. -/
  bit : BitIdx
  /-- Readable flag `R`; a well-formed term has it set (R133, D29). -/
  readable : Bool
  /-- Writable flag `W`. -/
  writable : Bool
deriving DecidableEq, Repr

/-- The operations of R133, in the order of spec/opcode_table.json. -/
inductive Instr where
  /-- RDREG `a` (R162). -/
  | rdreg (a : Byte)
  /-- WRREG `a`, `b` (R163). -/
  | wrreg (a : Byte) (b : Byte)
  /-- GETBIT `d` (R182). -/
  | getbit (d : Descriptor)
  /-- SETBIT `d`, `v` (R183). -/
  | setbit (d : Descriptor) (v : Value)
  /-- GETSIG `g` (R184). -/
  | getsig (g : Signal)
  /-- SETSIG `g`, `v` (R185). -/
  | setsig (g : Signal) (v : Value)
  /-- ATTACH, the Bring-Up Sequencer (R210). -/
  | attach
  /-- DETACH (R218). -/
  | detach
deriving DecidableEq, Repr

end Sys2Proof
end

