-- ==== Sys2Proof/WellFormed.lean ====
section
/-! DEFINITION. Which abstract terms are well formed (spec/30_encoding.md R133). -/

namespace Sys2Proof

/-- R133: `d.readable = true` for GETBIT and SETBIT, because the binary form with `R` = 0 is `invalid`.
Every other operand is in range by its type (R125). -/
def Instr.wellFormed : Instr → Bool
  | .rdreg _ => true
  | .wrreg _ _ => true
  | .getbit d => d.readable
  | .setbit d _ => d.readable
  | .getsig _ => true
  | .setsig _ _ => true
  | .attach => true
  | .detach => true

/-- The check as a proposition. -/
abbrev Instr.WellFormed (i : Instr) : Prop := i.wellFormed = true

end Sys2Proof
end

