-- ==== Sys2Proof/Decode.lean ====
section
/-! DEFINITION. The binary form of a request: the fields of the command word, the signal ids, decoding and
encoding (spec/30_encoding.md R120 to R126, R132, R133; spec/opcode_table.json). -/

namespace Sys2Proof

/-- The seven fields of the command word (R120). -/
structure Fields where
  /-- Bits [31:28]. -/
  op : BitVec 4
  /-- Bits [27:20]. -/
  a : Byte
  /-- Bits [19:17]. -/
  bit : BitIdx
  /-- Bit [16]. -/
  r : BitVec 1
  /-- Bit [15]. -/
  w : BitVec 1
  /-- Bits [14:12]. -/
  z : BitVec 3
  /-- Bits [11:0]. -/
  v : Value
deriving DecidableEq, Repr

/-- Takes a command word apart (R120). -/
def Fields.ofWord (cw : CmdWord) : Fields where
  op := cw.extractLsb' 28 4
  a := cw.extractLsb' 20 8
  bit := cw.extractLsb' 17 3
  r := cw.extractLsb' 16 1
  w := cw.extractLsb' 15 1
  z := cw.extractLsb' 12 3
  v := cw.extractLsb' 0 12

/-- Puts a command word together (R120). -/
def Fields.toWord (f : Fields) : CmdWord :=
  f.op ++ f.a ++ f.bit ++ f.r ++ f.w ++ f.z ++ f.v

/-- The position of an identity signal in group 0x0 (R126). -/
def IdentField.idx : IdentField → Nat
  | .codeVer => 0
  | .codeType => 1
  | .codeDay => 2
  | .codeMonth => 3
  | .codeYear => 4

/-- The group nibble of a module-indexed signal's id (R126). -/
def ModGroup.grp : ModGroup → Nat
  | .rst => 4
  | .lpmode => 5
  | .modsel => 6
  | .prs => 8
  | .int => 9

/-- The signal id `sid = {grp[3:0], idx[3:0]}` (R126, D7). -/
def Signal.sid : Signal → Byte
  | .ident f => BitVec.ofNat 8 f.idx
  | .ledTest k => BitVec.ofNat 8 (0x10 + k.val)
  | .scratch => 0x20#8
  | .softRst => 0x30#8
  | .qsfp g k => BitVec.ofNat 8 (16 * g.grp + k.val)
  | .hitless => 0x70#8
  | .sfpStat k => BitVec.ofNat 8 (0xA0 + k.val)
  | .sfpTxEn => 0xA3#8

/-- The catalogued signal with a given id; `none` for an uncatalogued id (R123 stage 2, R126). -/
def Signal.ofSid (sid : Byte) : Option Signal :=
  let idx := sid.extractLsb' 0 4
  let k : Fin 16 := ⟨idx.toNat, idx.isLt⟩
  match (sid.extractLsb' 4 4).toNat with
  | 0 =>
    match idx.toNat with
    | 0 => some (.ident .codeVer)
    | 1 => some (.ident .codeType)
    | 2 => some (.ident .codeDay)
    | 3 => some (.ident .codeMonth)
    | 4 => some (.ident .codeYear)
    | _ => none
  | 1 => if h : idx.toNat < 4 then some (.ledTest ⟨idx.toNat, h⟩) else none
  | 2 => if idx = 0#4 then some .scratch else none
  | 3 => if idx = 0#4 then some .softRst else none
  | 4 => some (.qsfp .rst k)
  | 5 => some (.qsfp .lpmode k)
  | 6 => some (.qsfp .modsel k)
  | 7 => if idx = 0#4 then some .hitless else none
  | 8 => some (.qsfp .prs k)
  | 9 => some (.qsfp .int k)
  | 10 =>
    if h : idx.toNat < 3 then some (.sfpStat ⟨idx.toNat, h⟩)
    else if idx = 3#4 then some .sfpTxEn else none
  | _ => none

/-- Why a command word's verdict is `invalid` (R124; spec/93_implementation_defined.md V1 to V4). -/
inductive DecodeError where
  /-- V1: `op` is 0x0, 0x7 or 0xA to 0xF. -/
  | unassignedOp
  /-- V2: a field that the format does not use is not zero. -/
  | reservedField
  /-- V3: format D with `R` = 0. -/
  | notReadable
  /-- V4: format S with an uncatalogued signal id. -/
  | uncataloguedSid
deriving DecidableEq, Repr

/-- Format N (R121): every field but `op` is zero. -/
def Fields.isN (f : Fields) : Bool :=
  f.a == 0#8 && f.bit == 0#3 && f.r == 0#1 && f.w == 0#1 && f.z == 0#3 && f.v == 0#12

/-- Format T without data (R121): RDREG. -/
def Fields.isT (f : Fields) : Bool :=
  f.bit == 0#3 && f.r == 0#1 && f.w == 0#1 && f.z == 0#3 && f.v == 0#12

/-- Format T with a data byte in `v[7:0]` (R121): WRREG. -/
def Fields.isTData (f : Fields) : Bool :=
  f.bit == 0#3 && f.r == 0#1 && f.w == 0#1 && f.z == 0#3 && f.v.extractLsb' 8 4 == 0#4

/-- Format S (R121): GETSIG has `v` = 0 besides. -/
def Fields.isS (f : Fields) : Bool :=
  f.bit == 0#3 && f.r == 0#1 && f.w == 0#1 && f.z == 0#3

/-- The descriptor a format D word carries (R121). -/
def Fields.descriptor (f : Fields) : Descriptor where
  reg := f.a
  bit := f.bit
  readable := f.r == 1#1
  writable := f.w == 1#1

/-- Stage 2 for format S (R123): looks the signal id up. -/
def withSignal (sid : Byte) (k : Signal → Instr) : Except DecodeError Instr :=
  match Signal.ofSid sid with
  | some g => .ok (k g)
  | none => .error .uncataloguedSid

/-- The abstract operation that the fields stand for (R121 to R123). -/
def Fields.decode (f : Fields) : Except DecodeError Instr :=
  match f.op.toNat with
  | 1 => if f.isT then .ok (.rdreg f.a) else .error .reservedField
  | 2 => if f.isTData then .ok (.wrreg f.a (f.v.extractLsb' 0 8)) else .error .reservedField
  | 3 =>
    if f.r = 0#1 then .error .notReadable
    else if f.z = 0#3 ∧ f.v = 0#12 then .ok (.getbit f.descriptor) else .error .reservedField
  | 4 =>
    if f.r = 0#1 then .error .notReadable
    else if f.z = 0#3 then .ok (.setbit f.descriptor f.v) else .error .reservedField
  | 5 => if f.isS && f.v == 0#12 then withSignal f.a .getsig else .error .reservedField
  | 6 => if f.isS then withSignal f.a (fun g => .setsig g f.v) else .error .reservedField
  | 8 => if f.isN then .ok .attach else .error .reservedField
  | 9 => if f.isN then .ok .detach else .error .reservedField
  | _ => .error .unassignedOp

/-- Decoding, total on every 32-bit word; `.error` is the verdict `invalid` (R123, R124). -/
def decode (cw : CmdWord) : Except DecodeError Instr :=
  (Fields.ofWord cw).decode

/-- A Boolean flag as a one-bit field. -/
def flagBit (b : Bool) : BitVec 1 := if b then 1#1 else 0#1

/-- The fields of an operation's command word (R121, R122); unused fields are zero. -/
def Instr.fields : Instr → Fields
  | .rdreg a => ⟨1#4, a, 0#3, 0#1, 0#1, 0#3, 0#12⟩
  | .wrreg a b => ⟨2#4, a, 0#3, 0#1, 0#1, 0#3, 0#4 ++ b⟩
  | .getbit d => ⟨3#4, d.reg, d.bit, flagBit d.readable, flagBit d.writable, 0#3, 0#12⟩
  | .setbit d v => ⟨4#4, d.reg, d.bit, flagBit d.readable, flagBit d.writable, 0#3, v⟩
  | .getsig g => ⟨5#4, g.sid, 0#3, 0#1, 0#1, 0#3, 0#12⟩
  | .setsig g v => ⟨6#4, g.sid, 0#3, 0#1, 0#1, 0#3, v⟩
  | .attach => ⟨8#4, 0#8, 0#3, 0#1, 0#1, 0#3, 0#12⟩
  | .detach => ⟨9#4, 0#8, 0#3, 0#1, 0#1, 0#3, 0#12⟩

/-- The command word of a well-formed operation (R133). -/
def encode (i : Instr) : CmdWord := i.fields.toWord

/-- The `match` column of R122 for an operation's row. -/
def Instr.rowMatch : Instr → CmdWord
  | .rdreg _ => 0x10000000#32
  | .wrreg _ _ => 0x20000000#32
  | .getbit _ => 0x30010000#32
  | .setbit _ _ => 0x40010000#32
  | .getsig _ => 0x50000000#32
  | .setsig _ _ => 0x60000000#32
  | .attach => 0x80000000#32
  | .detach => 0x90000000#32

/-- The `mask` column of R122 for an operation's row. -/
def Instr.rowMask : Instr → CmdWord
  | .rdreg _ => 0xF00FFFFF#32
  | .wrreg _ _ => 0xF00FFF00#32
  | .getbit _ => 0xF0017FFF#32
  | .setbit _ _ => 0xF0017000#32
  | .getsig _ => 0xF00FFFFF#32
  | .setsig _ _ => 0xF00FF000#32
  | .attach => 0xFFFFFFFF#32
  | .detach => 0xFFFFFFFF#32

/-- The operation that the decoder reads from a request whose lowest `nbits` bits are those of `w` and
whose other bits are 0. A request is one 32-bit word, so bit 0 of the table is bit 0 of the word (R120). -/
def decodeTableWord (nbits w : Nat) : Option Instr :=
  match decode (BitVec.ofNat 32 (w % 2 ^ nbits)) with
  | .ok i => some i
  | .error _ => none

end Sys2Proof
end

