-- ==== Sys2Proof/Config.lean ====
section
/-! DEFINITION. What an implementation fixes (the parameters of spec/00_scope.md R7) as plain data, and the
free values: what the bus, device discovery, the guard's arbiter and the chip's power-on state supply
(R53, R96, R101; 10_state.md R23, R55), each an opaque constant without a body. -/

namespace Sys2Proof

/-- The 20 registers of R28, in its order. -/
inductive Reg where
  | rev
  | ledTest
  | scratch
  | softRst
  | rstLo
  | rstHi
  | lpmodeLo
  | lpmodeHi
  | modselLo
  | modselHi
  | hitless
  | prsLo
  | prsHi
  | intLo
  | intHi
  | sfp0
  | sfp1
  | day
  | month
  | year
deriving DecidableEq, Repr

/-- All registers, in the order of R28. -/
def Reg.all : List Reg :=
  [.rev, .ledTest, .scratch, .softRst, .rstLo, .rstHi, .lpmodeLo, .lpmodeHi, .modselLo, .modselHi]
  ++ [.hitless, .prsLo, .prsHi, .intLo, .intHi, .sfp0, .sfp1, .day, .month, .year]

/-- The parameter `ADDR` of R7: an 8-bit address for each register of R28 (D1). -/
structure AddrMap where
  rev : Byte
  ledTest : Byte
  scratch : Byte
  softRst : Byte
  rstLo : Byte
  rstHi : Byte
  lpmodeLo : Byte
  lpmodeHi : Byte
  modselLo : Byte
  modselHi : Byte
  hitless : Byte
  prsLo : Byte
  prsHi : Byte
  intLo : Byte
  intHi : Byte
  sfp0 : Byte
  sfp1 : Byte
  day : Byte
  month : Byte
  year : Byte
deriving DecidableEq, Repr

/-- Which register of the SFP pair (R45, R46). -/
inductive SfpHalf where
  | sfp0
  | sfp1
deriving DecidableEq, Repr

/-- The place of an SFP signal: a register of the pair and a bit (R45). -/
structure SfpPlace where
  half : SfpHalf
  bit : BitIdx
deriving DecidableEq, Repr

/-- The parameter `SOFT_RST_EFFECT` of R7: what a successful write that sets the soft-reset bit does to
the CSRs besides storing the byte (R33, R98, D19). -/
inductive SoftRstEffect where
  /-- The default: no further effect. -/
  | identity
  /-- Some relation on the CSR contents: the write's answer says which storage bits it changed
  (`BusAnswer.ok`'s `effect`), so every relation is admitted. -/
  | drawn
deriving DecidableEq, Repr

/-- The parameters of R7. The BITPOS of a LED-test, soft-reset or hitless signal is a bit of the one
register the source assigns it to; the BITPOS of an SFP signal is a place in the pair. -/
structure Params where
  /-- `ADDR`. -/
  addr : AddrMap
  /-- `BITPOS(led_test0)`. -/
  led0 : BitIdx
  /-- `BITPOS(led_test1)`. -/
  led1 : BitIdx
  /-- `BITPOS(led_test2)`. -/
  led2 : BitIdx
  /-- `BITPOS(led_test3)`. -/
  led3 : BitIdx
  /-- `BITPOS(soft_rst)`. -/
  softRstBit : BitIdx
  /-- `BITPOS(hitless)`. -/
  hitlessBit : BitIdx
  /-- `BITPOS(sfp_stat0)`. -/
  sfpStat0 : SfpPlace
  /-- `BITPOS(sfp_stat1)`. -/
  sfpStat1 : SfpPlace
  /-- `BITPOS(sfp_stat2)`. -/
  sfpStat2 : SfpPlace
  /-- `BITPOS(sfp_tx_en)`. -/
  sfpTxEn : SfpPlace
  /-- `W_LED`. -/
  wLed : Bool
  /-- `W_SOFTRST`. -/
  wSoftRst : Bool
  /-- `W_HITLESS`. -/
  wHitless : Bool
  /-- `SOFT_RST_EFFECT`. -/
  softRstEffect : SoftRstEffect
deriving DecidableEq, Repr

/-- The reference instance: REFMAP (R28), REFBITS (R126) and the default flags and effect (R7). It is the
spec's own choice and not a fact about the chip; no rule rests on it (R7, D1, D2). -/
def Params.reference : Params where
  addr :=
    { rev := 0x00#8, ledTest := 0x01#8, scratch := 0x02#8, softRst := 0x03#8, rstLo := 0x04#8,
      rstHi := 0x05#8, lpmodeLo := 0x06#8, lpmodeHi := 0x07#8, modselLo := 0x08#8, modselHi := 0x09#8,
      hitless := 0x0A#8, prsLo := 0x0B#8, prsHi := 0x0C#8, intLo := 0x0D#8, intHi := 0x0E#8,
      sfp0 := 0x0F#8, sfp1 := 0x10#8, day := 0x11#8, month := 0x12#8, year := 0x13#8 }
  led0 := 0#3
  led1 := 1#3
  led2 := 2#3
  led3 := 3#3
  softRstBit := 0#3
  hitlessBit := 0#3
  sfpStat0 := ⟨.sfp0, 0#3⟩
  sfpStat1 := ⟨.sfp0, 1#3⟩
  sfpStat2 := ⟨.sfp0, 2#3⟩
  sfpTxEn := ⟨.sfp1, 0#3⟩
  wLed := true
  wSoftRst := true
  wHitless := false
  softRstEffect := .identity

/-- What the bus transport does with the outstanding transaction when it is looked at (R96 to R101). -/
inductive BusAnswer where
  /-- The transaction succeeds. `hw` supplies the hardware-driven bits of a read byte, or the whole byte
  at an address that holds none of the 20 registers (R97, R88); `effect` lists the storage bytes that
  SOFT_RST_EFFECT leaves when the write sets the soft-reset bit (R98), and is ignored otherwise. -/
  | ok (hw : Byte) (effect : List (Reg × Byte))
  /-- The transaction fails (R96). `left` is what the storage bits of the addressed register hold after a
  failed write (R99); a failed read ignores it. -/
  | err (left : Byte)
  /-- The transport has not answered yet (R101). -/
  | late
deriving DecidableEq, Repr, Inhabited

/-- What the transport does with the outstanding capability call `BusCap` when it is looked at: the answer is the
parameter `cap` of the endpoint (R7, R167), after any delay (R20). -/
inductive CapAnswer where
  /-- `cap` is true: the endpoint supports byte transactions. -/
  | yes
  /-- `cap` is false. -/
  | no
  /-- The transport has not answered yet (R20). -/
  | late
deriving DecidableEq, Repr, Inhabited

/-- FREE VALUE: the `n`-th answer of the bus transport that no listed answer gives (R96, R97, R99, R101). -/
opaque Config.busAnswer : Nat → BusAnswer

/-- FREE VALUE: the endpoint reference of the `n`-th binding that device discovery makes, where none is listed
(R21, R210). -/
opaque Config.binding : Nat → Endpoint

/-- FREE VALUE: the `n`-th answer to the capability call, where none is listed (R7, R20, R167). -/
opaque Config.capAnswer : Nat → CapAnswer

/-- FREE VALUE: the `n`-th choice among those that wait for the freed guard (R23, D22). -/
opaque Config.grant : Nat → Nat

/-- FREE VALUE: what the storage bits of the register at an address hold at launch (R55, R280, D23). -/
opaque Config.launchByte : Byte → Byte

end Sys2Proof
end

