-- ==== Sys2Proof/Machine/State.lean ====
section
/-! DEFINITION. The state of the machine as plain data: everything spec/10_state.md gives the core and the
chip, the request port, the event history, and the inputs and parameters the spec leaves free. -/

namespace Sys2Proof.Machine

/-- The handle's guard with the identity of its holder (R23). -/
inductive Guard where
  | free
  | held (by_ : Tag)
deriving DecidableEq, Repr

/-- The identity cache: five cells, each empty or holding one value (R22). -/
structure Ident where
  codeVer : Option (BitVec 6)
  codeType : Option (BitVec 2)
  codeDay : Option Byte
  codeMonth : Option Byte
  codeYear : Option Byte
deriving DecidableEq, Repr

/-- The direction of a transaction (R27). -/
inductive Dir where
  | rd
  | wr
deriving DecidableEq, Repr

/-- A diagnostic event: direction and register address of a failed transaction (R27). -/
structure Diag where
  dir : Dir
  addr : Byte
deriving DecidableEq, Repr

/-- The Device Handle (R21). -/
structure Handle where
  /-- The opaque bus endpoint reference. -/
  endpoint : Endpoint
  /-- `h.guard` (R23). -/
  guard : Guard
  /-- `h.id` (R22). -/
  ident : Ident
  /-- `h.diag`, oldest first (R27). -/
  diag : List Diag
deriving DecidableEq, Repr

/-- The lifecycle state (R24). A handle exists exactly in BRINGUP and ATTACHED. -/
inductive Life where
  /-- ABSENT: no handle exists. -/
  | absent
  /-- BRINGUP: ATTACH is running. -/
  | bringup (h : Handle)
  /-- ATTACHED. -/
  | attached (h : Handle)
  /-- DETACHED: torn down. -/
  | detached
deriving DecidableEq, Repr

/-- The bring-up step pointer (R26). -/
inductive BStep where
  | s1Cap
  | s2Rev
  | s3Day
  | s3Month
  | s3Year
  | s4RstLo
  | s4RstHi
  | s4LpmLo
  | s4LpmHi
  | s4SelLo
  | s4SelHi
  | done
  | failed
deriving DecidableEq, Repr

/-- The phase of the guarded operation (R26). Between steps only IDLE, CHECK, READ and WRITE are met: an
operation comes to rest where it waits for the transport and nowhere else, CHECK being the capability check. -/
inductive Phase where
  | idle
  | check
  | read
  | modify
  | write
  | respond
deriving DecidableEq, Repr

/-- One bus transaction (R166): a one-byte read, or a write with its byte. -/
inductive Txn where
  | rd (a : Byte)
  | wr (a : Byte) (b : Byte)
deriving DecidableEq, Repr

/-- An operation with the tag of its requester: the one that holds the guard, or one that waits for it. -/
structure Op where
  tag : Tag
  instr : Instr
deriving DecidableEq, Repr

/-- A request at the port: its requester's tag and the command word (R120, D24). -/
structure Request where
  tag : Tag
  word : CmdWord
deriving DecidableEq, Repr

/-- The four fault kinds of the closed taxonomy (R240). -/
inductive FaultKind where
  | transportFault
  | invalidInput
  | notWritable
  | capabilityUnavailable
deriving DecidableEq, Repr

/-- The one result of an operation (R10), and the decoder's verdict IllegalRequest, which is none of the four
fault kinds (R124). A fault carries no data. -/
inductive Result where
  | ok
  | okByte (b : Byte)
  | okBool (b : Bool)
  | fault (k : FaultKind)
  | illegalRequest
deriving DecidableEq, Repr

/-- What the event history records (R102). -/
inductive Event where
  /-- A read transaction at `a`; `none` is a failed one. -/
  | read (a : Byte) (r : Option Byte)
  /-- A write transaction of `b` at `a`, and whether it succeeded. -/
  | write (a : Byte) (b : Byte) (ok : Bool)
  /-- A diagnostic event. -/
  | diag (d : Diag)
  /-- A response delivered to a requester. -/
  | response (q : Tag) (r : Result)
deriving DecidableEq, Repr

/-- Reasons for the machine to stop with a fault. There are none: every fault of this hardware is a result
returned to the requester (R10, R247), so no step answers `Host.Outcome.fault`. -/
inductive Fault where
deriving DecidableEq, Repr

/-- Reasons for a step to have no meaning. -/
inductive Refusal where
  /-- Raised by an arm of `exec` that has no meaning yet; safe. -/
  | notModelled (mnemonic : String)
  /-- Raised by every operation, and by a word with verdict `invalid`, in a lifecycle state that does not
  accept it: the spec gives it no response and no step (R24, D20, U15); safe. -/
  | notAccepted
  /-- Raised by DETACH while another request waits for the guard: excluded by its precondition (R218, D21,
  U16); safe. -/
  | detachWhileWaiting
deriving DecidableEq, Repr

/-- The machine's state: one chip and its handle. -/
structure State where
  /-- ADDR, BITPOS, the writable flags and SOFT_RST_EFFECT (R7, R53); no step changes them. -/
  params : Params
  /-- `life` and the Device Handle (R21, R24). -/
  life : Life
  /-- The RMW latch `cur` (R25). -/
  cur : Option Byte
  /-- `bstep` (R26). -/
  bstep : Option BStep
  /-- `phase` (R26). -/
  phase : Phase
  /-- The guarded operation between its acquire and its release (R11, R23), and an ATTACH from its capability
  call on (R210, R211). -/
  active : Option Op
  /-- The one in-flight bus transaction (R23, R52). -/
  txn : Option Txn
  /-- The requests that wait for the guard (R52). -/
  waiting : List Op
  /-- The chip's register space: the storage bits written so far, by address (R28, R29, R80). -/
  csr : List Host.Cell
  /-- The requests issued and not yet taken, oldest first (R20, R120). -/
  port : List Request
  /-- The coming answers of the transport that are listed; beyond them they are free (R96). -/
  bus : List BusAnswer
  /-- The endpoint references of the coming bindings that are listed; beyond them they are free (R21, R210). -/
  bindings : List Endpoint
  /-- The coming answers to the capability call that are listed; beyond them they are free (R7, R20, R167). -/
  caps : List CapAnswer
  /-- The coming choices of the guard's arbiter that are listed; beyond them they are free (D22). -/
  grants : List Nat
  /-- How many free values have been used. -/
  draws : Nat
  /-- The requester whose request is being served. -/
  caller : Tag
  /-- The event history, oldest first (R102). -/
  history : List Event
deriving DecidableEq, Repr

/-- The machine before the first ATTACH (R55, R281): no handle, nothing in flight, nothing written by the
bus, nothing requested; the parameters are the reference instance (log entry 3). -/
def State.reset : State where
  params := Params.reference
  life := .absent
  cur := none
  bstep := none
  phase := .idle
  active := none
  txn := none
  waiting := []
  csr := []
  port := []
  bus := []
  bindings := []
  caps := []
  grants := []
  draws := 0
  caller := 0
  history := []

end Sys2Proof.Machine
end

