-- ==== Sys2Proof/Machine/Operands.lean ====
section
/-! DEFINITION. Operand forms: the pure functions over bytes, the register file's layout under the
parameters, the signal table and the operand domains (spec/41_bitfield.md R180, R181; 42_bringup.md R212;
10_state.md R28 to R51; 30_encoding.md R125, R126). -/

namespace Sys2Proof.Machine

/-- Extract: bit `i` of byte `b` (R180). -/
def extractBit (b : Byte) (i : BitIdx) : Bool :=
  (b >>> i.toNat) &&& 1#8 == 1#8

/-- The byte with only bit `i` set. -/
def bitMask (i : BitIdx) : Byte := 1#8 <<< i.toNat

/-- Merge: `(cur & (0xFF xor (1 << i))) | (v << i)` (R181). -/
def mergeBit (cur : Byte) (i : BitIdx) (v : Bool) : Byte :=
  (cur &&& (0xFF#8 ^^^ bitMask i)) ||| ((if v then 1#8 else 0#8) <<< i.toNat)

/-- The firmware version in the revision byte: `b & 0x3F`, its low 6 bits (R212). -/
def codeVerOf (b : Byte) : BitVec 6 := (b &&& 0x3F#8).setWidth 6

/-- The firmware type in the revision byte: `b >> 6`, its high 2 bits (R212). -/
def codeTypeOf (b : Byte) : BitVec 2 := (b >>> 6).setWidth 2

/-- ADDR: the address of a register (R7, R28). -/
def addrOf (p : Params) : Reg → Byte
  | .rev => p.addr.rev
  | .ledTest => p.addr.ledTest
  | .scratch => p.addr.scratch
  | .softRst => p.addr.softRst
  | .rstLo => p.addr.rstLo
  | .rstHi => p.addr.rstHi
  | .lpmodeLo => p.addr.lpmodeLo
  | .lpmodeHi => p.addr.lpmodeHi
  | .modselLo => p.addr.modselLo
  | .modselHi => p.addr.modselHi
  | .hitless => p.addr.hitless
  | .prsLo => p.addr.prsLo
  | .prsHi => p.addr.prsHi
  | .intLo => p.addr.intLo
  | .intHi => p.addr.intHi
  | .sfp0 => p.addr.sfp0
  | .sfp1 => p.addr.sfp1
  | .day => p.addr.day
  | .month => p.addr.month
  | .year => p.addr.year

/-- The register at an address, if the address is one of the 20 defined ones (R80, R88). -/
def regAt (p : Params) (a : Byte) : Option Reg :=
  Reg.all.find? (fun r => addrOf p r == a)

/-- The register of an SFP place. -/
def sfpReg : SfpHalf → Reg
  | .sfp0 => .sfp0
  | .sfp1 => .sfp1

/-- Module number of index `k` in the signal table: `idx = N - 17` (R126). -/
def moduleNumber (k : Fin 16) : Nat := 17 + k.val

/-- Whether module `n` lives in the low register of its pair (modules 17 to 24, R50). -/
def inLowHalf (n : Nat) : Bool := n ≤ 24

/-- The first module of the register that holds module `n` (R50). -/
def firstModule (n : Nat) : Nat := if inLowHalf n then 17 else 25

/-- The bit index of module `n`: `7 - (n - first)`, reversed within its register (R50). -/
def moduleBit (n : Nat) : BitIdx := BitVec.ofNat 3 (7 - (n - firstModule n))

/-- The low register of a group's pair (R34, R36, R38, R41, R43). -/
def groupLow : ModGroup → Reg
  | .rst => .rstLo
  | .lpmode => .lpmodeLo
  | .modsel => .modselLo
  | .prs => .prsLo
  | .int => .intLo

/-- The high register of a group's pair (R35, R37, R39, R42, R44). -/
def groupHigh : ModGroup → Reg
  | .rst => .rstHi
  | .lpmode => .lpmodeHi
  | .modsel => .modselHi
  | .prs => .prsHi
  | .int => .intHi

/-- The register that holds module `n` of a group (R50). -/
def moduleReg (g : ModGroup) (n : Nat) : Reg := if inLowHalf n then groupLow g else groupHigh g

/-- Whether the group's signals are writable: presence and interrupt bits are read-only (R126). -/
def groupWritable : ModGroup → Bool
  | .rst => true
  | .lpmode => true
  | .modsel => true
  | .prs => false
  | .int => false

/-- The bit of LED-test signal `k` (R31). -/
def ledBit (p : Params) (k : Fin 4) : BitIdx :=
  match k.val with
  | 0 => p.led0
  | 1 => p.led1
  | 2 => p.led2
  | _ => p.led3

/-- The place of SFP status signal `k` (R45). -/
def sfpStatPlace (p : Params) (k : Fin 3) : SfpPlace :=
  match k.val with
  | 0 => p.sfpStat0
  | 1 => p.sfpStat1
  | _ => p.sfpStat2

/-- The storage bits of a register as a mask; the other bits are hardware-driven (R29 to R49). The hitless
bit is a storage bit exactly when W_HITLESS is set (R40). -/
def storageMask (p : Params) : Reg → Byte
  | .rev => 0x00#8
  | .ledTest => bitMask p.led0 ||| bitMask p.led1 ||| bitMask p.led2 ||| bitMask p.led3
  | .scratch => 0xFF#8
  | .softRst => bitMask p.softRstBit
  | .rstLo => 0xFF#8
  | .rstHi => 0xFF#8
  | .lpmodeLo => 0xFF#8
  | .lpmodeHi => 0xFF#8
  | .modselLo => 0xFF#8
  | .modselHi => 0xFF#8
  | .hitless => if p.wHitless then bitMask p.hitlessBit else 0x00#8
  | .prsLo => 0x00#8
  | .prsHi => 0x00#8
  | .intLo => 0x00#8
  | .intHi => 0x00#8
  | .sfp0 => if p.sfpTxEn.half = .sfp0 then bitMask p.sfpTxEn.bit else 0x00#8
  | .sfp1 => if p.sfpTxEn.half = .sfp1 then bitMask p.sfpTxEn.bit else 0x00#8
  | .day => 0x00#8
  | .month => 0x00#8
  | .year => 0x00#8

/-- How a signal is accessed (R126): one bit of a register, a whole byte, or the identity snapshot. -/
inductive SigKind where
  | bit (r : Reg) (i : BitIdx)
  | byte (r : Reg)
  | ident (f : IdentField)
deriving DecidableEq, Repr

/-- Kind, register and bit of a signal: the signal table of R126 under the parameters. -/
def sigKind (p : Params) : Signal → SigKind
  | .ident f => .ident f
  | .ledTest k => .bit .ledTest (ledBit p k)
  | .scratch => .byte .scratch
  | .softRst => .bit .softRst p.softRstBit
  | .qsfp g k => .bit (moduleReg g (moduleNumber k)) (moduleBit (moduleNumber k))
  | .hitless => .bit .hitless p.hitlessBit
  | .sfpStat k => .bit (sfpReg (sfpStatPlace p k).half) (sfpStatPlace p k).bit
  | .sfpTxEn => .bit (sfpReg p.sfpTxEn.half) p.sfpTxEn.bit

/-- The writable flag of a signal: column W of R126 under the parameters. -/
def sigWritable (p : Params) : Signal → Bool
  | .ident _ => false
  | .ledTest _ => p.wLed
  | .scratch => true
  | .softRst => p.wSoftRst
  | .qsfp g _ => groupWritable g
  | .hitless => p.wHitless
  | .sfpStat _ => false
  | .sfpTxEn => true

/-- The readable flag of a signal: 1 for every catalogued signal (R51, R126). -/
def sigReadable : Signal → Bool
  | _ => true

/-- The largest value in the domain of an identity field: its width (R125). -/
def identMax : IdentField → Nat
  | .codeVer => 63
  | .codeType => 3
  | .codeDay => 255
  | .codeMonth => 255
  | .codeYear => 255

/-- The largest value in the domain of a signal (R125). -/
def sigMax (p : Params) (g : Signal) : Nat :=
  match sigKind p g with
  | .bit _ _ => 1
  | .byte _ => 255
  | .ident f => identMax f

/-- The domain check of SETSIG (R125). -/
def inSigDomain (p : Params) (g : Signal) (v : Value) : Bool := v.toNat ≤ sigMax p g

/-- The domain check of SETBIT: {0, 1} (R125). -/
def inBitDomain (v : Value) : Bool := v.toNat ≤ 1

/-- A value inside {0, 1} as the Boolean to merge (R181). -/
def valueBit (v : Value) : Bool := v == 1#12

/-- The low byte of a value: `v[7:0]` (R185). -/
def valueByte (v : Value) : Byte := v.extractLsb' 0 8

/-- The descriptor of a bit-kind signal, as GETSIG and SETSIG hand it to the bit operations (R51, R184). -/
def sigDescriptor (p : Params) (g : Signal) (r : Reg) (i : BitIdx) : Descriptor where
  reg := addrOf p r
  bit := i
  readable := sigReadable g
  writable := sigWritable p g

/-- The value of an identity cell, zero-extended to 8 bits (R184). -/
def identCell (d : Ident) : IdentField → Option Byte
  | .codeVer => d.codeVer.map (fun x => x.setWidth 8)
  | .codeType => d.codeType.map (fun x => x.setWidth 8)
  | .codeDay => d.codeDay
  | .codeMonth => d.codeMonth
  | .codeYear => d.codeYear

/-- The constraints of R7 on the parameters: ADDR is injective, and no two signals share a bit. -/
def validParams (p : Params) : Bool :=
  decide (Reg.all.map (addrOf p)).Nodup
  && decide [p.led0, p.led1, p.led2, p.led3].Nodup
  && decide [p.sfpStat0, p.sfpStat1, p.sfpStat2, p.sfpTxEn].Nodup

end Sys2Proof.Machine
end

