-- ==== Sys2Proof/Machine/Flags.lean ====
section
/-! DEFINITION. The flag-like state (spec/10_state.md R54: guard, life, valid bits) and the codes that leave
the core: status, response word, diagnostic word (spec/30_encoding.md R127 to R129). The core has no
condition codes (R54). -/

namespace Sys2Proof.Machine

/-- The handle, where one exists (R24). -/
def Life.handle? : Life → Option Handle
  | .absent => none
  | .bringup h => some h
  | .attached h => some h
  | .detached => none

/-- Changes the handle, where one exists. -/
def Life.onHandle (f : Handle → Handle) : Life → Life
  | .absent => .absent
  | .bringup h => .bringup (f h)
  | .attached h => .attached (f h)
  | .detached => .detached

/-- Whether ATTACH is running (R24, R216). -/
def Life.isBringup : Life → Bool
  | .absent => false
  | .bringup _ => true
  | .attached _ => false
  | .detached => false

/-- The identity cache of a new handle: every cell empty (R210). -/
def Ident.empty : Ident := ⟨none, none, none, none, none⟩

/-- A new handle: guard free, identity cells empty, no diagnostic event (R210). -/
def Handle.fresh (e : Endpoint) : Handle := ⟨e, .free, Ident.empty, []⟩

/-- The valid bit of an identity cell (R54). -/
def identValid (d : Ident) (f : IdentField) : Bool := (identCell d f).isSome

/-- The status number of a result (R128). -/
def Result.status : Result → BitVec 4
  | .ok => 0x0#4
  | .okByte _ => 0x0#4
  | .okBool _ => 0x0#4
  | .fault .transportFault => 0x1#4
  | .fault .invalidInput => 0x2#4
  | .fault .notWritable => 0x3#4
  | .fault .capabilityUnavailable => 0x4#4
  | .illegalRequest => 0x5#4

/-- The data byte of a result; `0x00` without meaning when the status is not OK (R127). -/
def Result.data : Result → Byte
  | .ok => 0x00#8
  | .okByte b => b
  | .okBool b => if b then 0x01#8 else 0x00#8
  | .fault _ => 0x00#8
  | .illegalRequest => 0x00#8

/-- The response word: bits [15:12] zero, [11:8] status, [7:0] data (R127). -/
def Result.word (r : Result) : RespWord := 0#4 ++ r.status ++ r.data

/-- The direction bit of a diagnostic event: 0 = RD, 1 = WR (R129). -/
def Dir.bit : Dir → BitVec 1
  | .rd => 0#1
  | .wr => 1#1

/-- The 9-bit diagnostic event word (R129). -/
def Diag.word (d : Diag) : DiagWord := d.dir.bit ++ d.addr

end Sys2Proof.Machine
end

