-- ==== Sys2Proof/Machine/Ops.lean ====
section
/-! DEFINITION. The named operations over the register space, the bus, the guard and the response port
(spec/20_memory.md R80 to R102; 40_transport.md R160, R161, R166 to R168; 60_exceptions.md R247). Delivering
a fault as a response (`State.finish`, `State.respond`) takes the place of exception entry: R247. -/

namespace Sys2Proof.Machine

/-- The byte listed at an address; `none` where no bus write has left one. -/
def Memory.read : List Host.Cell → Nat → Option Byte
  | [], _ => none
  | (k, v) :: rest, a => if k = a then some v else Memory.read rest a

/-- Lists byte `b` at an address, keeping the addresses strictly rising. -/
def Memory.write : List Host.Cell → Nat → Byte → List Host.Cell
  | [], a, b => [(a, b)]
  | (k, v) :: rest, a, b =>
    if a < k then (a, b) :: (k, v) :: rest
    else if a = k then (a, b) :: rest
    else (k, v) :: Memory.write rest a b

/-- Every address of the list is above `lo`, and the addresses rise strictly. -/
def Memory.risingFrom : Nat → List Host.Cell → Bool
  | _, [] => true
  | lo, (k, _) :: rest => lo < k && Memory.risingFrom k rest

/-- The canonical form: addresses strictly rising. An unlisted address reads as no byte, so no entry can
equal what an unlisted address reads as. -/
def Memory.wf : List Host.Cell → Bool
  | [] => true
  | (k, _) :: rest => Memory.risingFrom k rest

/-- The byte whose storage bits register `r` holds: the last one written, or the free launch byte (R90,
R280); 0 for a register without storage bits, of which no bit is ever used. -/
def storedIn (p : Params) (m : List Host.Cell) (r : Reg) : Byte :=
  match Memory.read m (addrOf p r).toNat with
  | some b => b
  | none => if storageMask p r = 0#8 then 0#8 else Config.launchByte (addrOf p r)

/-- The storage bits of register `r`; its hardware-driven bits are 0 here (R29). -/
def State.storage (s : State) (r : Reg) : Byte := storedIn s.params s.csr r &&& storageMask s.params r

/-- What a successful read at address `a` returns when the chip's pins and logic supply `hw`: the storage
bits of the register there and the hardware-driven bits of `hw` (R97); at an address that holds no register,
`hw` itself (R88). -/
def State.readByte (s : State) (a : Byte) (hw : Byte) : Byte :=
  match regAt s.params a with
  | some r => s.storage r ||| (hw &&& ~~~ (storageMask s.params r))
  | none => hw

/-- Sets the storage bits of register `r` to those of `b`, and nothing else (R98). A register without
storage bits keeps nothing (R29). -/
def storeIn (p : Params) (m : List Host.Cell) (r : Reg) (b : Byte) : List Host.Cell :=
  if storageMask p r = 0#8 then m else Memory.write m (addrOf p r).toNat (b &&& storageMask p r)

/-- The outcome of SOFT_RST_EFFECT: the listed storage bytes are left in the listed registers (R98, U5). -/
def effectIn (p : Params) (m : List Host.Cell) : List (Reg × Byte) → List Host.Cell
  | [] => m
  | (r, b) :: rest => effectIn p (storeIn p m r b) rest

/-- Whether a successful write of `b` to register `r` has the further effect SOFT_RST_EFFECT: the written
bit is `soft_rst`, its new value is 1, and the parameter is not the identity (R33, R98). -/
def firesSoftReset (p : Params) (r : Reg) (b : Byte) : Bool :=
  r == .softRst && extractBit b p.softRstBit && p.softRstEffect == .drawn

/-- The register space after a successful write of `b` at `a` (R98, R88). -/
def landIn (p : Params) (m : List Host.Cell) (a b : Byte) (effect : List (Reg × Byte)) : List Host.Cell :=
  match regAt p a with
  | some r => if firesSoftReset p r b then effectIn p (storeIn p m r b) effect else storeIn p m r b
  | none => m

/-- The register space after a failed write at `a`: the register's storage bits hold `left` (R99, R88). -/
def failIn (p : Params) (m : List Host.Cell) (a left : Byte) : List Host.Cell :=
  match regAt p a with
  | some r => storeIn p m r left
  | none => m

/-- The chip's reaction to a successful write of `b` at `a`: only the register space changes (R98). -/
def State.landWrite (s : State) (a b : Byte) (effect : List (Reg × Byte)) : State :=
  { s with csr := landIn s.params s.csr a b effect }

/-- The chip's reaction to a failed write at `a`: only the register space changes (R99). -/
def State.failWrite (s : State) (a left : Byte) : State :=
  { s with csr := failIn s.params s.csr a left }

/-- The next answer of the transport: the first listed one, else a free value (R96). -/
def State.nextAnswer (s : State) : BusAnswer :=
  match s.bus with
  | ans :: _ => ans
  | [] => Config.busAnswer s.draws

/-- Consumes the next answer of the transport. -/
def State.dropAnswer (s : State) : State :=
  { s with bus := s.bus.tail, draws := if s.bus.isEmpty then s.draws + 1 else s.draws }

/-- The endpoint reference of the next binding: the first listed one, else a free value (R21, R210). -/
def State.nextBinding (s : State) : Endpoint :=
  match s.bindings with
  | b :: _ => b
  | [] => Config.binding s.draws

/-- Consumes the next binding of device discovery. -/
def State.dropBinding (s : State) : State :=
  { s with bindings := s.bindings.tail, draws := if s.bindings.isEmpty then s.draws + 1 else s.draws }

/-- The next answer to the capability call: the first listed one, else a free value (R7, R20, R167). -/
def State.nextCap (s : State) : CapAnswer :=
  match s.caps with
  | c :: _ => c
  | [] => Config.capAnswer s.draws

/-- Consumes the next answer to the capability call. -/
def State.dropCap (s : State) : State :=
  { s with caps := s.caps.tail, draws := if s.caps.isEmpty then s.draws + 1 else s.draws }

/-- The next choice of the guard's arbiter: the first listed one, else a free value (R23, D22). -/
def State.nextGrant (s : State) : Nat :=
  match s.grants with
  | k :: _ => k
  | [] => Config.grant s.draws

/-- Consumes the next choice of the guard's arbiter. -/
def State.dropGrant (s : State) : State :=
  { s with grants := s.grants.tail, draws := if s.grants.isEmpty then s.draws + 1 else s.draws }

/-- Whether an answer is the transport's silence (R101). -/
def isLate : BusAnswer → Bool
  | .ok _ _ => false
  | .err _ => false
  | .late => true

/-- Whether the outstanding call to the transport is the capability call of bring-up step 1 (R211). -/
def State.awaitsCap (s : State) : Bool := s.life.isBringup && s.bstep == some .s1Cap

/-- Whether the transport has no answer yet to the call that is outstanding (R20, R101). -/
def State.silent (s : State) : Bool :=
  if s.awaitsCap then s.nextCap == .late else isLate s.nextAnswer

/-- Consumes the transport's silence. -/
def State.dropSilence (s : State) : State := if s.awaitsCap then s.dropCap else s.dropAnswer

/-- Changes the handle, where one exists. -/
def State.onHandle (s : State) (f : Handle → Handle) : State := { s with life := s.life.onHandle f }

/-- Changes the identity cache of the handle (R22). -/
def State.onIdent (s : State) (f : Ident → Ident) : State :=
  s.onHandle (fun h => { h with ident := f h.ident })

/-- Records an event in the history (R102). -/
def State.log (s : State) (e : Event) : State := { s with history := s.history ++ [e] }

/-- `diag(dir, A)`: appends one diagnostic event to `h.diag` and to the history (R27, R102). -/
def State.addDiag (s : State) (d : Diag) : State :=
  (s.onHandle (fun h => { h with diag := h.diag ++ [d] })).log (.diag d)

/-- `respond r`: delivers the result to the requester being served (R9, R127, R247). -/
def State.respond (s : State) (r : Result) : State := s.log (.response s.caller r)

/-- `acquire(h.guard)` by the requester being served, for the operation `i` (R23, R168). -/
def State.acquire (s : State) (i : Instr) : State :=
  { s.onHandle (fun h => { h with guard := .held s.caller }) with
    active := some ⟨s.caller, i⟩, cur := none }

/-- `release(h.guard)`: the operation ends with its guard hold, and with it the latch, the phase and the
in-flight transaction (R23, R25, R168). -/
def State.release (s : State) : State :=
  { s.onHandle (fun h => { h with guard := .free }) with
    active := none, cur := none, txn := none, phase := .idle }

/-- `release; respond r`, the end of a guarded operation (R168). -/
def State.finish (s : State) (r : Result) : State := s.release.respond r

/-- The request joins those that wait for the guard (R23, R52). -/
def State.enqueue (s : State) (i : Instr) : State :=
  { s with waiting := s.waiting ++ [⟨s.caller, i⟩] }

/-- The phase in which a transaction is outstanding (R26). -/
def txnPhase : Txn → Phase
  | .rd _ => .read
  | .wr _ _ => .write

/-- Puts a transaction in flight (R23). -/
def State.issue (s : State) (t : Txn) : State := { s with txn := some t, phase := txnPhase t }

/-- The transaction in flight has been answered. -/
def State.answered (s : State) : State := { s with txn := none }

/-- Holds the byte just read in the latch for the merge (R25). -/
def State.latch (s : State) (b : Byte) : State := { s with cur := some b, phase := .modify }

/-- What an operation sees of a read transaction (R166, R101). -/
inductive ReadReply where
  | unanswered
  | err
  | ok (b : Byte)
deriving DecidableEq, Repr

/-- What an operation sees of a write transaction (R166, R101). -/
inductive WriteReply where
  | unanswered
  | err
  | ok
deriving DecidableEq, Repr

/-- `BusRead(h, A)` (R166): one transaction. Unanswered, it stays in flight (R101); failed, it changes no
register (R99); successful, it returns the byte and changes no register (R86, R97). -/
def State.busRead (s : State) (a : Byte) : ReadReply × State :=
  match s.nextAnswer with
  | .late => (.unanswered, (s.issue (.rd a)).dropAnswer)
  | .err _ => (.err, ((s.issue (.rd a)).dropAnswer.answered).log (.read a none))
  | .ok hw _ =>
    (.ok (s.readByte a hw), ((s.issue (.rd a)).dropAnswer.answered).log (.read a (some (s.readByte a hw))))

/-- `BusWrite(h, A, b)` (R166): one transaction. Unanswered, it stays in flight (R101); failed, it leaves
any byte in the register's storage bits (R99); successful, it stores them (R98). -/
def State.busWrite (s : State) (a b : Byte) : WriteReply × State :=
  match s.nextAnswer with
  | .late => (.unanswered, (s.issue (.wr a b)).dropAnswer)
  | .err left => (.err, (((s.issue (.wr a b)).dropAnswer.answered).failWrite a left).log (.write a b false))
  | .ok _ fx => (.ok, (((s.issue (.wr a b)).dropAnswer.answered).landWrite a b fx).log (.write a b true))

/-- The diagnostic event of a failed read (R160). -/
def afterRead (a : Byte) : ReadReply × State → ReadReply × State
  | (.unanswered, s) => (.unanswered, s)
  | (.err, s) => (.err, s.addDiag ⟨.rd, a⟩)
  | (.ok b, s) => (.ok b, s)

/-- The diagnostic event of a failed write (R161). -/
def afterWrite (a : Byte) : WriteReply × State → WriteReply × State
  | (.unanswered, s) => (.unanswered, s)
  | (.err, s) => (.err, s.addDiag ⟨.wr, a⟩)
  | (.ok, s) => (.ok, s)

/-- `xfer_read(h, A)` (R160): one transaction, no retry, one diagnostic event on failure. -/
def State.xferRead (s : State) (a : Byte) : ReadReply × State := afterRead a (s.busRead a)

/-- `xfer_write(h, A, b)` (R161): one transaction, no retry, one diagnostic event on failure. -/
def State.xferWrite (s : State) (a b : Byte) : WriteReply × State := afterWrite a (s.busWrite a b)

/-- The end of an operation that reads one register: nothing while unanswered, TransportFault on failure,
`f` of the byte on success. -/
def endRead (f : Byte → Result) : ReadReply × State → State
  | (.unanswered, s) => s
  | (.err, s) => s.finish (.fault .transportFault)
  | (.ok b, s) => s.finish (f b)

/-- The end of an operation that writes one register: nothing while unanswered, TransportFault on failure,
Ok on success. -/
def endWrite : WriteReply × State → State
  | (.unanswered, s) => s
  | (.err, s) => s.finish (.fault .transportFault)
  | (.ok, s) => s.finish .ok

/-- A guarded operation of one read (R162, R182, R184), from its `acquire` onward. -/
def State.readOp (s : State) (a : Byte) (f : Byte → Result) : State := endRead f (s.xferRead a)

/-- A guarded operation of one write (R163, R185), from its `acquire` onward. -/
def State.writeOp (s : State) (a b : Byte) : State := endWrite (s.xferWrite a b)

/-- The second half of a read-modify-write (R183): the read ended it, or its byte is latched, merged and
written. -/
def endRmwRead (a : Byte) (i : BitIdx) (v : Bool) : ReadReply × State → State
  | (.unanswered, s) => s
  | (.err, s) => s.finish (.fault .transportFault)
  | (.ok b, s) => (s.latch b).writeOp a (mergeBit b i v)

/-- A read-modify-write of bit `i` at `a`, inside one guard hold (R183, R85): a fresh read while the latch
is empty, and the write of the merged byte once it holds the byte read. -/
def State.rmwOp (s : State) (a : Byte) (i : BitIdx) (v : Bool) : State :=
  match s.cur with
  | none => endRmwRead a i v (s.xferRead a)
  | some b => s.writeOp a (mergeBit b i v)

/-- Runs `body` under the guard: at once where the guard is free, after waiting where it is held (R23,
R168). -/
def State.underGuard (s : State) (h : Handle) (i : Instr) (body : State → State) : State :=
  match h.guard with
  | .free => body (s.acquire i)
  | .held _ => s.enqueue i

/-- Operations other than ATTACH are accepted only in ATTACHED (R24, D20). -/
def State.accepted (s : State) (k : Handle → State) : Host.Outcome State Fault Refusal :=
  match s.life with
  | .attached h => .next (k h)
  | .absent => .refused .notAccepted
  | .bringup _ => .refused .notAccepted
  | .detached => .refused .notAccepted

end Sys2Proof.Machine
end

