-- ==== Sys2Proof/Machine/BitField.lean ====
section
/-! DEFINITION. The Bit-Field Control Surface: GETBIT, SETBIT, GETSIG and SETSIG (spec/41_bitfield.md R182
to R187). -/

namespace Sys2Proof.Machine

/-- GETBIT from its `acquire` onward (R182). -/
def getbitBody (d : Descriptor) (s : State) : State :=
  s.readOp d.reg fun b => .okBool (extractBit b d.bit)

/-- GETBIT (R182): the writable flag is ignored. -/
def execGetbit (d : Descriptor) (s : State) : Host.Outcome State Fault Refusal :=
  s.accepted fun h => s.underGuard h (.getbit d) (getbitBody d)

/-- SETBIT from its `acquire` onward: the read-modify-write (R183). -/
def setbitBody (d : Descriptor) (v : Value) (s : State) : State :=
  s.rmwOp d.reg d.bit (valueBit v)

/-- SETBIT (R183): domain, then writable flag, both before the guard and the bus (R186). -/
def execSetbit (d : Descriptor) (v : Value) (s : State) : Host.Outcome State Fault Refusal :=
  s.accepted fun h =>
    if !inBitDomain v then s.respond (.fault .invalidInput)
    else if !d.writable then s.respond (.fault .notWritable)
    else s.underGuard h (.setbit d v) (setbitBody d v)

/-- The answer of an identity read from the snapshot: an empty cell gives TransportFault (R184, D12). -/
def identResult (d : Ident) (f : IdentField) : Result :=
  match identCell d f with
  | some b => .okByte b
  | none => .fault .transportFault

/-- GETSIG from its `acquire` onward (R184); an identity read has no guarded part. -/
def getsigBody (g : Signal) (s : State) : State :=
  match sigKind s.params g with
  | .bit r i => getbitBody (sigDescriptor s.params g r i) s
  | .byte r => s.readOp (addrOf s.params r) .okByte
  | .ident _ => s

/-- GETSIG (R184): an identity signal is answered from the snapshot without guard or bus. -/
def execGetsig (g : Signal) (s : State) : Host.Outcome State Fault Refusal :=
  s.accepted fun h =>
    match sigKind s.params g with
    | .bit _ _ => s.underGuard h (.getsig g) (getsigBody g)
    | .byte _ => s.underGuard h (.getsig g) (getsigBody g)
    | .ident f => s.respond (identResult h.ident f)

/-- SETSIG from its `acquire` onward (R185); a write of an identity signal never gets here. -/
def setsigBody (g : Signal) (v : Value) (s : State) : State :=
  match sigKind s.params g with
  | .bit r i => setbitBody (sigDescriptor s.params g r i) v s
  | .byte r => s.writeOp (addrOf s.params r) (valueByte v)
  | .ident _ => s

/-- SETSIG (R185): domain, then the signal's writable flag, both before the guard and the bus (R186). -/
def execSetsig (g : Signal) (v : Value) (s : State) : Host.Outcome State Fault Refusal :=
  s.accepted fun h =>
    if !inSigDomain s.params g v then s.respond (.fault .invalidInput)
    else if !sigWritable s.params g then s.respond (.fault .notWritable)
    else s.underGuard h (.setsig g v) (setsigBody g v)

end Sys2Proof.Machine
end

