-- ==== Sys2Proof/Machine/BringUp.lean ====
section
/-! DEFINITION. The Bring-Up Sequencer and detach: ATTACH and DETACH (spec/42_bringup.md R210 to R218). -/

namespace Sys2Proof.Machine

/-- Step 2: the revision byte split into version and type (R212). -/
def captureRev (b : Byte) (d : Ident) : Ident :=
  { d with codeVer := some (codeVerOf b), codeType := some (codeTypeOf b) }

/-- Step 3, day: the byte verbatim (R213). -/
def captureDay (b : Byte) (d : Ident) : Ident := { d with codeDay := some b }

/-- Step 3, month: the byte verbatim (R213). -/
def captureMonth (b : Byte) (d : Ident) : Ident := { d with codeMonth := some b }

/-- Step 3, year: the byte verbatim (R213). -/
def captureYear (b : Byte) (d : Ident) : Ident := { d with codeYear := some b }

/-- The end of a capturing read, with whether it was answered: a failed read leaves its cell empty and the
sequencer goes on (R215). -/
def endCapture (store : Byte → Ident → Ident) : ReadReply × State → Bool × State
  | (.unanswered, s) => (false, s)
  | (.err, s) => (true, s)
  | (.ok b, s) => (true, s.onIdent (store b))

/-- The end of a baseline write, with whether it was answered: a failed write does not stop the sequencer
(R215). -/
def endBaseline : WriteReply × State → Bool × State
  | (.unanswered, s) => (false, s)
  | (.err, s) => (true, s)
  | (.ok, s) => (true, s)

/-- One step of the sequencer after the capability check, with whether its transaction was answered (R210,
R212 to R214). -/
def bringupStep (b : BStep) (s : State) : Bool × State :=
  match b with
  | .s1Cap => (true, s)
  | .s2Rev => endCapture captureRev (s.xferRead (addrOf s.params .rev))
  | .s3Day => endCapture captureDay (s.xferRead (addrOf s.params .day))
  | .s3Month => endCapture captureMonth (s.xferRead (addrOf s.params .month))
  | .s3Year => endCapture captureYear (s.xferRead (addrOf s.params .year))
  | .s4RstLo => endBaseline (s.xferWrite (addrOf s.params .rstLo) 0xFF#8)
  | .s4RstHi => endBaseline (s.xferWrite (addrOf s.params .rstHi) 0xFF#8)
  | .s4LpmLo => endBaseline (s.xferWrite (addrOf s.params .lpmodeLo) 0x00#8)
  | .s4LpmHi => endBaseline (s.xferWrite (addrOf s.params .lpmodeHi) 0x00#8)
  | .s4SelLo => endBaseline (s.xferWrite (addrOf s.params .modselLo) 0x00#8)
  | .s4SelHi => endBaseline (s.xferWrite (addrOf s.params .modselHi) 0x00#8)
  | .done => (true, s)
  | .failed => (true, s)

/-- The order of the sequencer's ten transactions (R210, R26, D13). -/
def bringupOrder : List BStep :=
  [.s2Rev, .s3Day, .s3Month, .s3Year, .s4RstLo, .s4RstHi, .s4LpmLo, .s4LpmHi, .s4SelLo, .s4SelHi]

/-- The steps from `b` on (R26). -/
def bringupFrom (b : BStep) : List BStep := bringupOrder.dropWhile (fun x => x != b)

/-- BRINGUP becomes ATTACHED (R24). -/
def Life.toAttached : Life → Life
  | .absent => .absent
  | .bringup h => .attached h
  | .attached h => .attached h
  | .detached => .detached

/-- The end of the sequencer: the guard is released, `bstep` is DONE, the handle is ATTACHED, and ATTACH
responds Ok whatever failed in steps 2 to 4 (R210, R215). -/
def State.bringupDone (s : State) : State :=
  { s.release with bstep := some .done, life := s.release.life.toAttached }.respond .ok

/-- The sequencer over the steps that are left; it stays at a step whose transaction is unanswered (R210,
R101). -/
def runBringup : List BStep → State → State
  | [], s => s.bringupDone
  | b :: rest, s =>
    match bringupStep b { s with bstep := some b } with
    | (true, s') => runBringup rest s'
    | (false, s') => s'

/-- The transport looked at while the capability call is outstanding (R20, R211). Without an answer the
sequencer stays at step 1, where it does not hold the guard yet (R210); answered yes it acquires the guard and goes
on; answered no there is no handle, and `bstep`, which goes to FAILED, has no value outside BRINGUP (R26, log
entry 9). -/
def askCap (s : State) : State :=
  match s.nextCap with
  | .late => s.dropCap
  | .yes => runBringup bringupOrder (s.dropCap.acquire .attach)
  | .no =>
    { s.dropCap with life := .absent, bstep := none, active := none, phase := .idle }.respond
      (.fault .capabilityUnavailable)

/-- The rest of an ATTACH whose call to the transport was unanswered (R210, R26). -/
def attachBody (s : State) : State :=
  match s.bstep with
  | some .s1Cap => askCap s
  | some b => runBringup (bringupFrom b) s
  | none => s

/-- A new handle in BRINGUP at step 1, its capability call outstanding (R210, R211). -/
def State.beginAttach (s : State) : State :=
  { s.dropBinding with
    life := .bringup (Handle.fresh s.nextBinding), bstep := some .s1Cap, active := some ⟨s.caller, .attach⟩,
    phase := .check }

/-- ATTACH from its acceptance on: a fresh handle and the capability check of step 1 (R210, R211). -/
def attachRun (s : State) : State := askCap s.beginAttach

/-- ATTACH (R210): accepted only in ABSENT and DETACHED (R24, R217). -/
def execAttach (s : State) : Host.Outcome State Fault Refusal :=
  match s.life with
  | .absent => .next (attachRun s)
  | .bringup _ => .refused .notAccepted
  | .attached _ => .refused .notAccepted
  | .detached => .next (attachRun s)

/-- DETACH from its `acquire` onward: the handle is destroyed, no transaction is issued (R218). -/
def detachBody (s : State) : State :=
  { s.release with life := .detached, bstep := none }.respond .ok

/-- DETACH (R218): accepted only in ATTACHED, and only while no other request waits (D21, U16). -/
def execDetach (s : State) : Host.Outcome State Fault Refusal :=
  match s.life with
  | .attached h =>
    if s.waiting.isEmpty then .next (s.underGuard h .detach detachBody) else .refused .detachWhileWaiting
  | .absent => .refused .notAccepted
  | .bringup _ => .refused .notAccepted
  | .detached => .refused .notAccepted

end Sys2Proof.Machine
end

