-- ==== Sys2Proof/Machine/Transport.lean ====
section
/-! DEFINITION. The Register Transport: RDREG and WRREG (spec/40_transport.md R162, R163). -/

namespace Sys2Proof.Machine

/-- RDREG from its `acquire` onward (R162). -/
def rdregBody (a : Byte) (s : State) : State := s.readOp a .okByte

/-- RDREG (R162): the address is not checked against the defined registers (R88). -/
def execRdreg (a : Byte) (s : State) : Host.Outcome State Fault Refusal :=
  s.accepted fun h => s.underGuard h (.rdreg a) (rdregBody a)

/-- WRREG from its `acquire` onward (R163). -/
def wrregBody (a b : Byte) (s : State) : State := s.writeOp a b

/-- WRREG (R163): the whole byte, no read first, no writable flag. -/
def execWrreg (a b : Byte) (s : State) : Host.Outcome State Fault Refusal :=
  s.accepted fun h => s.underGuard h (.wrreg a b) (wrregBody a b)

end Sys2Proof.Machine
end

