-- ==== Sys2Proof/Machine/Dispatch.lean ====
section
/-! DEFINITION. One arm per operation: what each of the eight rows of spec/opcode_table.json does. -/

namespace Sys2Proof.Machine

def exec (i : Instr) (s : State) : Host.Outcome State Fault Refusal :=
  match i with
  | .rdreg a => Sys2Proof.Machine.execRdreg a s
  | .wrreg a b => Sys2Proof.Machine.execWrreg a b s
  | .getbit d => Sys2Proof.Machine.execGetbit d s
  | .setbit d v => Sys2Proof.Machine.execSetbit d v s
  | .getsig g => Sys2Proof.Machine.execGetsig g s
  | .setsig g v => Sys2Proof.Machine.execSetsig g v s
  | .attach => Sys2Proof.Machine.execAttach s
  | .detach => Sys2Proof.Machine.execDetach s

end Sys2Proof.Machine
end

