-- ==== Sys2Proof/Machine/Schedule.lean ====
section
/-! DEFINITION. Which agent moves next and what its move is: taking a request from the port, the transport's
answer to the operation in flight, the grant of a freed guard (spec/10_state.md R20, R23; 20_memory.md R101;
30_encoding.md R120, R124). -/

namespace Sys2Proof.Machine

/-- A word whose verdict is `invalid`: IllegalRequest in ATTACHED, with no other effect (R124, R245); no step
where no request is accepted (spec/95_test_vectors.md section 2.6, log entry 6). -/
def illegalRequest (s : State) : Host.Outcome State Fault Refusal :=
  s.accepted fun _ => s.respond .illegalRequest

/-- Decodes a request and runs its operation for its requester (R120, R123). -/
def serveRequest (r : Request) (s : State) : Host.Outcome State Fault Refusal :=
  match decode r.word with
  | .ok i => exec i { s with caller := r.tag }
  | .error _ => illegalRequest { s with caller := r.tag }

/-- Takes the oldest request from the port; with none there the core waits. -/
def serveNext (s : State) : Host.Outcome State Fault Refusal :=
  match s.port with
  | [] => .next s
  | r :: rest => serveRequest r { s with port := rest }

/-- The transport's answer has come: the operation in flight goes on (R101, R26). -/
def resume (op : Op) (s : State) : State :=
  let t : State := { s with caller := op.tag }
  match op.instr with
  | .rdreg a => rdregBody a t
  | .wrreg a b => wrregBody a b t
  | .getbit d => getbitBody d t
  | .setbit d v => setbitBody d v t
  | .getsig g => getsigBody g t
  | .setsig g v => setsigBody g v t
  | .attach => attachBody t
  | .detach => detachBody t

/-- A step while an operation is in flight: it goes on if the transport answers its outstanding call; else another
request may be served, but none while ATTACH runs (R20, R101, R216, R289). -/
def stepBusy (op : Op) (s : State) : Host.Outcome State Fault Refusal :=
  if s.silent then
    if s.life.isBringup then .next s.dropSilence else serveNext s.dropSilence
  else .next (resume op s)

/-- How many requests may get the freed guard: those that wait, and the next one at the port (R23, D22). -/
def contenders (s : State) : Nat := s.waiting.length + (if s.port.isEmpty then 0 else 1)

/-- A step while the guard is free and requests wait for it: the arbiter's choice decides which waiting
request, or the next one at the port, goes on (R23, D22). -/
def grantNext (s : State) : Host.Outcome State Fault Refusal :=
  match s.waiting[s.nextGrant % contenders s]? with
  | some op =>
    exec op.instr
      { s.dropGrant with waiting := s.waiting.eraseIdx (s.nextGrant % contenders s), caller := op.tag }
  | none => serveNext s.dropGrant

/-- A step while no operation is in flight. -/
def stepFree (s : State) : Host.Outcome State Fault Refusal :=
  if s.waiting.isEmpty then serveNext s else grantNext s

/-- The next move of the machine: the operation in flight, if there is one, has the transport looked at; else
a request is served (R11, R20). -/
def advance (s : State) : Host.Outcome State Fault Refusal :=
  match s.active with
  | some op => stepBusy op s
  | none => stepFree s

/-- A lifecycle state in which the request `cw` is accepted, as near to `l` as can be: ATTACH needs ABSENT
or DETACHED, every other request an attached handle with its guard free (R24). -/
def readyLife (cw : CmdWord) (l : Life) : Life :=
  match l with
  | .absent => if cw = 0x80000000#32 then .absent else .attached (Handle.fresh 0)
  | .detached => if cw = 0x80000000#32 then .detached else .attached (Handle.fresh 0)
  | .bringup h => if cw = 0x80000000#32 then .absent else .attached { h with guard := .free }
  | .attached h => if cw = 0x80000000#32 then .detached else .attached { h with guard := .free }

/-- Places the request `cw` at the head of the port so that the next step serves it: nothing is in flight,
nothing waits, and the lifecycle accepts it. -/
def placeWord (cw : CmdWord) (s : State) : State :=
  { s with
    life := readyLife cw s.life, cur := none, phase := .idle, active := none, txn := none, waiting := [],
    port := ⟨0, cw⟩ :: s.port }

end Sys2Proof.Machine
end

