-- ==== Sys2Proof/Safety.lean ====
section
/-! DEFINITION. What a good state and a good step are, in the terms the statements use: the register space's
canonical form, the guard discipline, the freshness of the latch, and what a stretch of history holds. -/

namespace Sys2Proof.Machine

/-- A listed byte belongs to a defined register and holds only its storage bits (R29). -/
def CellOk (p : Params) (c : Host.Cell) : Prop :=
  ∃ r, c.1 = (addrOf p r).toNat ∧ c.2 &&& ~~~ (storageMask p r) = 0#8

/-- The register space is in canonical form and keeps storage bits only (R29, R98). -/
def CsrOk (s : State) : Prop :=
  Memory.wf s.csr = true ∧ ∀ c ∈ s.csr, CellOk s.params c

/-- The transaction of a read-modify-write: the read while the latch is empty, then the write (R183). -/
def rmwTxn (cur : Option Byte) (a : Byte) (i : BitIdx) (v : Value) : Txn :=
  match cur with
  | none => .rd a
  | some c => .wr a (mergeBit c i (valueBit v))

/-- The transaction of a step of the sequencer (R210). -/
def bringupTxn (p : Params) : BStep → Option Txn
  | .s1Cap => none
  | .s2Rev => some (.rd (addrOf p .rev))
  | .s3Day => some (.rd (addrOf p .day))
  | .s3Month => some (.rd (addrOf p .month))
  | .s3Year => some (.rd (addrOf p .year))
  | .s4RstLo => some (.wr (addrOf p .rstLo) 0xFF#8)
  | .s4RstHi => some (.wr (addrOf p .rstHi) 0xFF#8)
  | .s4LpmLo => some (.wr (addrOf p .lpmodeLo) 0x00#8)
  | .s4LpmHi => some (.wr (addrOf p .lpmodeHi) 0x00#8)
  | .s4SelLo => some (.wr (addrOf p .modselLo) 0x00#8)
  | .s4SelHi => some (.wr (addrOf p .modselHi) 0x00#8)
  | .done => none
  | .failed => none

/-- The transaction that the operation `i` has in flight when the latch is `cur` and the sequencer is at
`b`; `none` for an operation that never has one in flight (R162, R163, R182 to R185, R210, R218). -/
def expectedTxn (p : Params) (i : Instr) (cur : Option Byte) (b : Option BStep) : Option Txn :=
  match i with
  | .rdreg a => some (.rd a)
  | .wrreg a x => some (.wr a x)
  | .getbit d => some (.rd d.reg)
  | .setbit d v => some (rmwTxn cur d.reg d.bit v)
  | .getsig g =>
    match sigKind p g with
    | .bit r _ => some (.rd (addrOf p r))
    | .byte r => some (.rd (addrOf p r))
    | .ident _ => none
  | .setsig g v =>
    match sigKind p g with
    | .bit r j => some (rmwTxn cur (addrOf p r) j v)
    | .byte r => some (.wr (addrOf p r) (valueByte v))
    | .ident _ => none
  | .attach => b.bind (bringupTxn p)
  | .detach => none

/-- While no operation is in flight: no transaction, no latch, phase IDLE, no bring-up running, and the
guard of the handle, where there is one, free (R23, R25, R26, R168). -/
def QuietOk (s : State) : Prop :=
  s.txn = none ∧ s.phase = .idle ∧ s.cur = none ∧ s.life.isBringup = false
  ∧ ∀ h, s.life.handle? = some h → h.guard = .free

/-- While operation `op` has a transaction in flight: its requester holds the guard, exactly the transaction its
phase calls for is outstanding, and BRINGUP lasts exactly as long as an ATTACH (R23, R24, R26, R216). -/
def InFlightOk (s : State) (op : Op) : Prop :=
  (∃ h, s.life.handle? = some h ∧ h.guard = .held op.tag)
  ∧ (∃ t, s.txn = some t ∧ s.phase = txnPhase t ∧ expectedTxn s.params op.instr s.cur s.bstep = some t)
  ∧ (s.life.isBringup = true ↔ op.instr = .attach)

/-- While an ATTACH waits for the capability answer: BRINGUP at step 1, the guard not acquired yet, no transaction
and no latch (R20, R210, R211). -/
def CapWaitOk (s : State) (op : Op) : Prop :=
  op.instr = .attach ∧ s.bstep = some .s1Cap ∧ s.txn = none ∧ s.cur = none ∧ s.phase = .check
  ∧ ∃ h, s.life = .bringup h ∧ h.guard = .free

/-- While operation `op` is active, it waits for the transport in one of the two ways. -/
def BusyOk (s : State) (op : Op) : Prop := InFlightOk s op ∨ CapWaitOk s op

/-- The guard discipline (R23, R168): at most one operation, with one transaction, is in flight. -/
def GuardOk (s : State) : Prop :=
  match s.active with
  | none => QuietOk s
  | some op => BusyOk s op

/-- The register address that a read-modify-write operation works on (R183, R185). -/
def rmwTarget (p : Params) : Instr → Option Byte
  | .rdreg _ => none
  | .wrreg _ _ => none
  | .getbit _ => none
  | .setbit d _ => some d.reg
  | .getsig _ => none
  | .setsig g _ =>
    match sigKind p g with
    | .bit r _ => some (addrOf p r)
    | .byte _ => none
    | .ident _ => none
  | .attach => none
  | .detach => none

/-- The register address that an operation stores to (R163, R183, R185); `none` where it stores nothing or,
for ATTACH, to six registers. -/
def storeTarget (p : Params) : Instr → Option Byte
  | .rdreg _ => none
  | .wrreg a _ => some a
  | .getbit _ => none
  | .setbit d _ => some d.reg
  | .getsig _ => none
  | .setsig g _ =>
    match sigKind p g with
    | .bit r _ => some (addrOf p r)
    | .byte r => some (addrOf p r)
    | .ident _ => none
  | .attach => none
  | .detach => none

/-- The latch is fresh: the storage bits of the byte a read-modify-write has read are still those of its
register (R85, R285). -/
def LatchFresh (s : State) : Prop :=
  ∀ op c a r, s.active = some op → s.cur = some c → rmwTarget s.params op.instr = some a →
    regAt s.params a = some r → c &&& storageMask s.params r = s.storage r

/-- Whether an event is a bus transaction (R102). -/
def isBusEvent : Event → Bool
  | .read _ _ => true
  | .write _ _ _ => true
  | .diag _ => false
  | .response _ _ => false

/-- Whether an event is a response (R102). -/
def isResponse : Event → Bool
  | .read _ _ => false
  | .write _ _ _ => false
  | .diag _ => false
  | .response _ _ => true

/-- The bus transactions of a stretch of history, in order. -/
def busEvents (es : List Event) : List Event := es.filter isBusEvent

/-- The diagnostic events that the failed transactions of a stretch of history call for, in order (R27). -/
def failures : List Event → List Diag
  | [] => []
  | .read a none :: es => ⟨.rd, a⟩ :: failures es
  | .read _ (some _) :: es => failures es
  | .write a _ false :: es => ⟨.wr, a⟩ :: failures es
  | .write _ _ true :: es => failures es
  | .diag _ :: es => failures es
  | .response _ _ :: es => failures es

/-- The diagnostic events of a stretch of history, in order. -/
def diagEvents : List Event → List Diag
  | [] => []
  | .read _ _ :: es => diagEvents es
  | .write _ _ _ :: es => diagEvents es
  | .diag d :: es => d :: diagEvents es
  | .response _ _ :: es => diagEvents es

/-- Whether a stretch of history holds a write transaction at address `a`, successful or failed. -/
def writesTo (a : Byte) (es : List Event) : Bool :=
  es.any fun e =>
    match e with
    | .write x _ _ => x == a
    | .read _ _ => false
    | .diag _ => false
    | .response _ _ => false

/-- The state after `k` answers of the transport have been consumed. -/
def State.dropAnswers (s : State) : Nat → State
  | 0 => s
  | k + 1 => (s.dropAnswer).dropAnswers k

/-- The transport's answer to the `k`-th transaction from here on, counting from 0. -/
def State.answerAt (s : State) (k : Nat) : BusAnswer := (s.dropAnswers k).nextAnswer

/-- Whether an operation passes its own checks and goes to the guard and the bus once it is accepted in
ATTACHED (R168, R184, R186). -/
def reachesBus (p : Params) : Instr → Bool
  | .rdreg _ => true
  | .wrreg _ _ => true
  | .getbit _ => true
  | .setbit d v => inBitDomain v && d.writable
  | .getsig g =>
    match sigKind p g with
    | .bit _ _ => true
    | .byte _ => true
    | .ident _ => false
  | .setsig g v => inSigDomain p g v && sigWritable p g
  | .attach => false
  | .detach => false

/-- How many transactions a fault-free operation of a requester has (R295). -/
def txnCount (p : Params) : Instr → Nat
  | .rdreg _ => 1
  | .wrreg _ _ => 1
  | .getbit _ => 1
  | .setbit _ _ => 2
  | .getsig _ => 1
  | .setsig g _ =>
    match sigKind p g with
    | .bit _ _ => 2
    | .byte _ => 1
    | .ident _ => 0
  | .attach => 10
  | .detach => 0

/-- The state in which a guarded operation has ended after `n` transactions, having recorded the events `es`:
nothing is in flight, and everything else is as in `s`. -/
def State.settled (s : State) (n : Nat) (es : List Event) : State :=
  { s.dropAnswers n with
    active := none, txn := none, cur := none, phase := .idle, history := s.history ++ es }

/-- The byte of an answered read transaction at a register without storage bits; `none` for a failed one. -/
def readOf : BusAnswer → Option Byte
  | .ok hw _ => some hw
  | .err _ => none
  | .late => none

/-- What a register of storage bits only holds after an answered write of `b`. -/
def leftOf (b : Byte) : BusAnswer → Byte
  | .ok _ _ => b
  | .err left => left
  | .late => b

/-- `run` is a run of the machine: every state is the next of the one before. -/
def IsRun (run : Nat → State) : Prop := ∀ n, step (run n) = .next (run (n + 1))

/-- The fairness assumption of R101, that every issued transaction is eventually answered: whenever an operation
waits for the transport, there is a later moment at which the transport answers (D22, log entry 17). It is a premise
of statements about progress and no part of the step: without it an operation may hang for ever. -/
def TransportAnswers (run : Nat → State) : Prop :=
  ∀ n, (run n).active ≠ none → ∃ m, n ≤ m ∧ (run m).silent = false

/-- The diagnostic event of a transaction with a given answer, if it failed. -/
def diagOf (d : Diag) : BusAnswer → List Diag
  | .ok _ _ => []
  | .err _ => [d]
  | .late => []

end Sys2Proof.Machine
end

