-- ==== Sys2Proof/Certificates/Slice0/Obligations.lean ====
section
/-! DEFINITION. The statements for the provers. -/

open Sys2Proof Sys2Proof.Machine

/-! ## Encoding -/

/-- R133: encoding a well-formed term and decoding the word gives the term back, and decoding a word with a
valid verdict gives a well-formed term whose encoding is the word. -/
def Obligations.EncodeAndDecodeAreInverse : Prop :=
  (∀ i : Instr, i.WellFormed → decode (encode i) = .ok i)
  ∧ ∀ (cw : CmdWord) (i : Instr), decode cw = .ok i → i.WellFormed ∧ encode i = cw

/-- R122, R123: a word with a valid verdict matches the row of its operation; a word that matches a row of
format T, D or N decodes to that row's operation, and one that matches a row of format S does so exactly when
its signal id is catalogued; the rows are disjoint; the unassigned values of `op` are invalid. Which
reason an invalid word is given for is the model's own (log entry 14). -/
def Obligations.OpcodeRowsSelectOperations : Prop :=
  (∀ (cw : CmdWord) (i : Instr), decode cw = .ok i → cw &&& i.rowMask = i.rowMatch)
  ∧ (∀ cw : CmdWord, cw &&& 0xF00FFFFF#32 = 0x10000000#32 →
      decode cw = .ok (.rdreg (cw.extractLsb' 20 8)))
  ∧ (∀ cw : CmdWord, cw &&& 0xF00FFF00#32 = 0x20000000#32 →
      decode cw = .ok (.wrreg (cw.extractLsb' 20 8) (cw.extractLsb' 0 8)))
  ∧ (∀ cw : CmdWord, cw &&& 0xF0017FFF#32 = 0x30010000#32 →
      decode cw = .ok (.getbit
        ⟨cw.extractLsb' 20 8, cw.extractLsb' 17 3, true, cw.getLsbD 15⟩))
  ∧ (∀ cw : CmdWord, cw &&& 0xF0017000#32 = 0x40010000#32 →
      decode cw = .ok (.setbit
        ⟨cw.extractLsb' 20 8, cw.extractLsb' 17 3, true, cw.getLsbD 15⟩ (cw.extractLsb' 0 12)))
  ∧ (∀ cw : CmdWord, cw &&& 0xF00FFFFF#32 = 0x50000000#32 →
      (∀ g, Signal.ofSid (cw.extractLsb' 20 8) = some g → decode cw = .ok (.getsig g))
      ∧ (Signal.ofSid (cw.extractLsb' 20 8) = none → decode cw = .error .uncataloguedSid))
  ∧ (∀ cw : CmdWord, cw &&& 0xF00FF000#32 = 0x60000000#32 →
      (∀ g, Signal.ofSid (cw.extractLsb' 20 8) = some g →
        decode cw = .ok (.setsig g (cw.extractLsb' 0 12)))
      ∧ (Signal.ofSid (cw.extractLsb' 20 8) = none → decode cw = .error .uncataloguedSid))
  ∧ decode 0x80000000#32 = .ok .attach
  ∧ decode 0x90000000#32 = .ok .detach
  ∧ (∀ (cw : CmdWord) (i j : Instr), cw &&& i.rowMask = i.rowMatch → cw &&& j.rowMask = j.rowMatch →
      i.rowMatch = j.rowMatch)
  ∧ ∀ cw : CmdWord, (cw.extractLsb' 28 4).toNat ∈ [0x0, 0x7, 0xA, 0xB, 0xC, 0xD, 0xE, 0xF] →
      decode cw = .error .unassignedOp

/-- Words that the spec's test vectors print beside their operations (95_test_vectors.md sections 2.2 to 2.7)
decode so. -/
def Obligations.PrintedWordsDecodeAsPrinted : Prop :=
  decode 0x10200000#32 = .ok (.rdreg 0x02#8)
  ∧ decode 0x204000FF#32 = .ok (.wrreg 0x04#8 0xFF#8)
  ∧ decode 0x30B50000#32 = .ok (.getbit ⟨0x0B#8, 2#3, true, false⟩)
  ∧ decode 0x40478FFF#32 = .ok (.setbit ⟨0x04#8, 3#3, true, true⟩ 0xFFF#12)
  ∧ decode 0x54400000#32 = .ok (.getsig (.qsfp .rst 4))
  ∧ decode 0x6A300001#32 = .ok (.setsig .sfpTxEn 1#12)
  ∧ decode 0x80000000#32 = .ok .attach
  ∧ decode 0x90000000#32 = .ok .detach
  ∧ decode 0x57100000#32 = .error .uncataloguedSid
  ∧ decode 0x30468000#32 = .error .notReadable

/-- R126: a signal's id names that signal only, and exactly 96 ids are catalogued. -/
def Obligations.CatalogueHasNinetySixSignals : Prop :=
  (∀ (g g' : Signal), g.sid = g'.sid → g = g')
  ∧ ((List.range 256).filter fun n => (Signal.ofSid (BitVec.ofNat 8 n)).isSome).length = 96

/-! ## Pure functions -/

/-- R50: module `17 + k` of any group lives in the low register for `k` 0 to 7 and in the high one for `k` 8
to 15, at bit `7 - (k mod 8)`. -/
def Obligations.ModuleBitsAreReversedWithinEachRegister : Prop :=
  ∀ (p : Params) (g : ModGroup) (k : Fin 16),
    (k.val < 8 → sigKind p (.qsfp g k) = .bit (groupLow g) (BitVec.ofNat 3 (7 - k.val)))
    ∧ (8 ≤ k.val → sigKind p (.qsfp g k) = .bit (groupHigh g) (BitVec.ofNat 3 (15 - k.val)))

/-- R126: the ids, the kind, register and bit columns, and the W and R columns of the signal table; the bit column of
the module signals is the statement above. -/
def Obligations.SignalTableColumns : Prop :=
  (Signal.sid (.ident .codeVer) = 0x00#8 ∧ Signal.sid (.ident .codeType) = 0x01#8
    ∧ Signal.sid (.ident .codeDay) = 0x02#8 ∧ Signal.sid (.ident .codeMonth) = 0x03#8
    ∧ Signal.sid (.ident .codeYear) = 0x04#8 ∧ (∀ k, (Signal.sid (.ledTest k)).toNat = 0x10 + k.val)
    ∧ Signal.sid .scratch = 0x20#8 ∧ Signal.sid .softRst = 0x30#8 ∧ Signal.sid .hitless = 0x70#8
    ∧ (∀ k, (Signal.sid (.sfpStat k)).toNat = 0xA0 + k.val) ∧ Signal.sid .sfpTxEn = 0xA3#8
    ∧ ∀ k, (Signal.sid (.qsfp .rst k)).toNat = 0x40 + k.val
      ∧ (Signal.sid (.qsfp .lpmode k)).toNat = 0x50 + k.val
      ∧ (Signal.sid (.qsfp .modsel k)).toNat = 0x60 + k.val
      ∧ (Signal.sid (.qsfp .prs k)).toNat = 0x80 + k.val
      ∧ (Signal.sid (.qsfp .int k)).toNat = 0x90 + k.val)
  ∧ (groupLow .rst = .rstLo ∧ groupHigh .rst = .rstHi ∧ groupLow .lpmode = .lpmodeLo
    ∧ groupHigh .lpmode = .lpmodeHi ∧ groupLow .modsel = .modselLo ∧ groupHigh .modsel = .modselHi
    ∧ groupLow .prs = .prsLo ∧ groupHigh .prs = .prsHi ∧ groupLow .int = .intLo ∧ groupHigh .int = .intHi)
  ∧ (∀ g, sigReadable g = true)
  ∧ ∀ p : Params,
    (∀ f, sigKind p (.ident f) = .ident f ∧ sigWritable p (.ident f) = false)
    ∧ (sigKind p (.ledTest 0) = .bit .ledTest p.led0 ∧ sigKind p (.ledTest 1) = .bit .ledTest p.led1
      ∧ sigKind p (.ledTest 2) = .bit .ledTest p.led2 ∧ sigKind p (.ledTest 3) = .bit .ledTest p.led3)
    ∧ (∀ k, sigWritable p (.ledTest k) = p.wLed)
    ∧ (sigKind p .scratch = .byte .scratch ∧ sigWritable p .scratch = true)
    ∧ (sigKind p .softRst = .bit .softRst p.softRstBit ∧ sigWritable p .softRst = p.wSoftRst)
    ∧ (sigKind p .hitless = .bit .hitless p.hitlessBit ∧ sigWritable p .hitless = p.wHitless)
    ∧ (sigKind p (.sfpStat 0) = .bit (sfpReg p.sfpStat0.half) p.sfpStat0.bit
      ∧ sigKind p (.sfpStat 1) = .bit (sfpReg p.sfpStat1.half) p.sfpStat1.bit
      ∧ sigKind p (.sfpStat 2) = .bit (sfpReg p.sfpStat2.half) p.sfpStat2.bit
      ∧ sigKind p .sfpTxEn = .bit (sfpReg p.sfpTxEn.half) p.sfpTxEn.bit
      ∧ sfpReg .sfp0 = .sfp0 ∧ sfpReg .sfp1 = .sfp1)
    ∧ (∀ k, sigWritable p (.sfpStat k) = false) ∧ sigWritable p .sfpTxEn = true
    ∧ ∀ k, sigWritable p (.qsfp .rst k) = true ∧ sigWritable p (.qsfp .lpmode k) = true
      ∧ sigWritable p (.qsfp .modsel k) = true ∧ sigWritable p (.qsfp .prs k) = false
      ∧ sigWritable p (.qsfp .int k) = false

/-- R125: the domain of the value operand of SETBIT and SETSIG, and the words whose value field breaks its
must-be-zero rule. -/
def Obligations.OperandDomains : Prop :=
  (∀ v : Value, inBitDomain v = true ↔ v.toNat ≤ 1)
  ∧ (∀ (p : Params) (g : Signal) (v : Value) (r : Reg) (i : BitIdx), sigKind p g = .bit r i →
      (inSigDomain p g v = true ↔ v.toNat ≤ 1))
  ∧ (∀ (p : Params) (v : Value), (inSigDomain p .scratch v = true ↔ v.toNat ≤ 255)
      ∧ (inSigDomain p (.ident .codeVer) v = true ↔ v.toNat ≤ 63)
      ∧ (inSigDomain p (.ident .codeType) v = true ↔ v.toNat ≤ 3)
      ∧ (inSigDomain p (.ident .codeDay) v = true ↔ v.toNat ≤ 255)
      ∧ (inSigDomain p (.ident .codeMonth) v = true ↔ v.toNat ≤ 255)
      ∧ (inSigDomain p (.ident .codeYear) v = true ↔ v.toNat ≤ 255))
  ∧ ∀ cw : CmdWord,
      (cw.extractLsb' 28 4 = 2#4 → 255 < (cw.extractLsb' 0 12).toNat → ∃ e, decode cw = .error e)
      ∧ (cw.extractLsb' 28 4 ∈ [1#4, 3#4, 5#4, 8#4, 9#4] → cw.extractLsb' 0 12 ≠ 0#12 →
        ∃ e, decode cw = .error e)

/-- R180, R181: extract gives bit `i`; merge sets bit `i` to `v` and keeps every other bit. -/
def Obligations.ExtractAndMergeActOnOneBit : Prop :=
  (∀ (b : Byte) (i : BitIdx), extractBit b i = b.getLsbD i.toNat)
  ∧ ∀ (b : Byte) (i : BitIdx) (v : Bool) (j : Nat), j < 8 →
      (mergeBit b i v).getLsbD j = if j = i.toNat then v else b.getLsbD j

/-- The laws of R189, and the eight values of `1 << i`. -/
def Obligations.MergeLaws : Prop :=
  ∀ (c : Byte) (i j : BitIdx) (v w : Bool),
    extractBit (mergeBit c i v) i = v
    ∧ (j ≠ i → extractBit (mergeBit c i v) j = extractBit c j)
    ∧ mergeBit c i (extractBit c i) = c
    ∧ mergeBit (mergeBit c i v) i w = mergeBit c i w
    ∧ (j ≠ i → mergeBit (mergeBit c i v) j w = mergeBit (mergeBit c j w) i v)
    ∧ bitMask i ∈ [0x01#8, 0x02#8, 0x04#8, 0x08#8, 0x10#8, 0x20#8, 0x40#8, 0x80#8]

/-- R212: the version is the low 6 bits of the revision byte and the type its high 2 bits. -/
def Obligations.RevisionByteSplits : Prop :=
  ∀ b : Byte, (codeVerOf b).toNat = b.toNat % 64 ∧ (codeTypeOf b).toNat = b.toNat / 64

/-- R127 to R129: the places of the fields of the response word and the diagnostic word, the status
numbers and the data. -/
def Obligations.OutputWordsHaveTheirFields : Prop :=
  (∀ r : Result, r.word.extractLsb' 12 4 = 0#4 ∧ r.word.extractLsb' 8 4 = r.status
    ∧ r.word.extractLsb' 0 8 = r.data)
  ∧ Result.ok.word = 0x0000#16
  ∧ (∀ b : Byte, (Result.okByte b).word.toNat = b.toNat)
  ∧ (∀ b : Bool, (Result.okBool b).word.toNat = b.toNat)
  ∧ (Result.fault .transportFault).word = 0x0100#16
  ∧ (Result.fault .invalidInput).word = 0x0200#16
  ∧ (Result.fault .notWritable).word = 0x0300#16
  ∧ (Result.fault .capabilityUnavailable).word = 0x0400#16
  ∧ Result.illegalRequest.word = 0x0500#16
  ∧ ∀ a : Byte, (Diag.word ⟨.rd, a⟩).toNat = a.toNat ∧ (Diag.word ⟨.wr, a⟩).toNat = 256 + a.toNat

/-! ## The step -/

/-- With nothing in flight and nothing waiting, a step takes the oldest request from the port and runs the
operation its word decodes to, for its requester. That it is the OLDEST one is the model's choice (log entry 8). -/
def Obligations.StepRunsTheDecodedRequest : Prop :=
  ∀ (s : State) (r : Request) (rest : List Request) (i : Instr),
    s.active = none → s.waiting = [] → s.port = r :: rest → decode r.word = .ok i →
    step s = exec i { s with port := rest, caller := r.tag }

/-- R124: in ATTACHED a word with verdict `invalid` is answered IllegalRequest and changes nothing else, whether
or not an operation is in flight. -/
def Obligations.InvalidWordIsAnsweredIllegalRequest : Prop :=
  ∀ (s : State) (r : Request) (rest : List Request) (e : DecodeError) (h : Handle),
    s.port = r :: rest → decode r.word = .error e → s.life = .attached h →
    (s.active = none → s.waiting = [] →
      step s = .next { s with
        port := rest, caller := r.tag, history := s.history ++ [.response r.tag .illegalRequest] })
    ∧ (∀ op, s.active = some op → s.nextAnswer = .late →
      step s = .next { s.dropAnswer with
        port := rest, caller := r.tag, history := s.history ++ [.response r.tag .illegalRequest] })

/-- The model's choice of log entry 6, after 95_test_vectors.md section 2.6: where no handle is attached, a word
with verdict `invalid` has no step. -/
def Obligations.InvalidWordHasNoStepWithoutHandle : Prop :=
  ∀ (s : State) (r : Request) (rest : List Request) (e : DecodeError),
    s.port = r :: rest → decode r.word = .error e → s.active = none → s.waiting = [] →
    s.life = .absent ∨ s.life = .detached → step s = .refused .notAccepted

/-- R23: when the guard is free, each request that waits for it may be the one that gets it. That the next request
at the port may come before them is the model's choice (log entry 8). -/
def Obligations.AnyContenderMayGetTheGuard : Prop :=
  ∀ (s : State) (gs : List Nat), s.active = none → s.waiting ≠ [] →
    (∀ (k : Nat) (op : Op), s.waiting[k]? = some op → s.grants = k :: gs →
      step s = exec op.instr { s with grants := gs, waiting := s.waiting.eraseIdx k, caller := op.tag })
    ∧ (∀ (r : Request) (rest : List Request) (i : Instr),
      s.port = r :: rest → decode r.word = .ok i → s.grants = s.waiting.length :: gs →
      step s = exec i { s with grants := gs, port := rest, caller := r.tag })

/-- R101, R216, R289: while the transport is silent nothing of the operation in flight happens, and in BRINGUP no
request is served. That in ATTACHED a step then serves the next request of the port is the model's choice (log
entry 8). -/
def Obligations.SilentTransportLetsOtherRequestsBeServed : Prop :=
  ∀ (s : State) (op : Op), s.active = some op → s.silent = true →
    (∀ h, s.life = .bringup h → step s = .next s.dropSilence)
    ∧ (∀ h, s.life = .attached h → s.port = [] → step s = .next s.dropAnswer)
    ∧ (∀ h r rest i, s.life = .attached h → s.port = r :: rest → decode r.word = .ok i →
      step s = exec i { s.dropAnswer with port := rest, caller := r.tag })

/-- R23, R168: an operation that needs the guard waits while another holds it: no transaction, no response.
Operations rejected before the bus and identity reads do not wait (R289): their results below hold whatever
the guard is. -/
def Obligations.HeldGuardMakesOperationsWait : Prop :=
  ∀ (s : State) (h : Handle) (q : Tag) (i : Instr), s.life = .attached h → h.guard = .held q →
    reachesBus s.params i = true ∨ (i = .detach ∧ s.waiting = []) →
    exec i s = .next { s with waiting := s.waiting ++ [⟨s.caller, i⟩] }

/-- R101, R23: an operation of ATTACHED with an unanswered transaction keeps the guard, with that transaction in
flight and no response: its first transaction, or the write of a read-modify-write, which keeps the byte read. -/
def Obligations.UnansweredTransactionKeepsTheGuard : Prop :=
  ∀ (s : State) (h : Handle) (i : Instr), s.life = .attached h → h.guard = .free →
    reachesBus s.params i = true →
    (s.answerAt 0 = .late →
      ∃ x, expectedTxn s.params i none none = some x ∧
        exec i s = .next { s.dropAnswers 1 with
          life := .attached { h with guard := .held s.caller }, active := some ⟨s.caller, i⟩,
          cur := none, txn := some x, phase := txnPhase x })
    ∧ (∀ a hw fx c, rmwTarget s.params i = some a → s.answerAt 0 = .ok hw fx → s.answerAt 1 = .late →
      c = s.readByte a hw →
      ∃ b, expectedTxn s.params i (some c) none = some (.wr a b) ∧
        exec i s = .next { s.dropAnswers 2 with
          life := .attached { h with guard := .held s.caller }, active := some ⟨s.caller, i⟩,
          cur := some c, txn := some (.wr a b), phase := .write,
          history := s.history ++ [.read a (some c)] })

/-- R20, R101, R216: an ATTACH whose capability call or `k`-th transaction is unanswered stays in BRINGUP with that
call outstanding: at step 1 the guard is not acquired yet (R210), at a transaction it is held; the `k` transactions
before it are in the history, and no response is. The phase it shows, CHECK at the capability call and READ or WRITE at
a transaction, is the model's choice (log entry 10): R26 gives no phase path for an ATTACH. -/
def Obligations.UnansweredAttachStaysInBringup : Prop :=
  ∀ s s1 : State, s.life = .absent ∨ s.life = .detached → s1 = s.dropBinding →
    (s1.nextCap = .late →
      exec .attach s = .next { s1.dropCap with
        life := .bringup ⟨s.nextBinding, .free, ⟨none, none, none, none, none⟩, []⟩,
        bstep := some .s1Cap, active := some ⟨s.caller, .attach⟩, phase := .check })
    ∧ (∀ k b x, s1.nextCap = .yes → bringupOrder[k]? = some b → bringupTxn s.params b = some x →
      (∀ j, j < k → isLate (s1.dropCap.answerAt j) = false) → s1.dropCap.answerAt k = .late →
      ∃ t es h, exec .attach s = .next t ∧ t.life = .bringup h ∧ h.guard = .held s.caller
        ∧ t.active = some ⟨s.caller, .attach⟩ ∧ t.bstep = some b ∧ t.txn = some x ∧ t.phase = txnPhase x
        ∧ t.history = s.history ++ es ∧ (busEvents es).length = k ∧ es.filter isResponse = [])

/-- A delay of the first transaction changes nothing but the time: when the transport answers, the operation
does what it would have done at once, had its requester found the guard free (R101, R90). -/
def Obligations.DelayedOperationActsAsIfIssuedNow : Prop :=
  ∀ (s : State) (h : Handle) (op : Op), s.active = some op → s.life = .attached h →
    h.guard = .held op.tag → s.cur = none → isLate s.nextAnswer = false →
    reachesBus s.params op.instr = true →
    step s = exec op.instr { s with life := .attached { h with guard := .free }, caller := op.tag }

/-- R183, R185, R101: a SETBIT, or a SETSIG of a bit-kind signal, whose write was unanswered goes on with the byte it
has read: success stores the merged byte, failure is logged and answered TransportFault. -/
def Obligations.DelayedSetbitWriteUsesTheByteRead : Prop :=
  ∀ (s : State) (h : Handle) (q : Tag) (i : Instr) (a : Byte) (j : BitIdx) (v : Value) (c new : Byte),
    ((∃ d, i = .setbit d v ∧ d.reg = a ∧ d.bit = j)
      ∨ ∃ g r, i = .setsig g v ∧ sigKind s.params g = .bit r j ∧ addrOf s.params r = a) →
    s.active = some ⟨q, i⟩ → s.life = .attached h → h.guard = .held q → s.cur = some c →
    new = mergeBit c j (valueBit v) →
    (∀ hw fx, s.nextAnswer = .ok hw fx →
      step s = .next { s.settled 1 [.write a new true, .response q .ok] with
        caller := q, life := .attached { h with guard := .free }, csr := landIn s.params s.csr a new fx })
    ∧ (∀ left, s.nextAnswer = .err left →
      step s = .next { s.settled 1
          [.write a new false, .diag ⟨.wr, a⟩, .response q (.fault .transportFault)] with
        caller := q, life := .attached { h with guard := .free, diag := h.diag ++ [⟨.wr, a⟩] },
        csr := failIn s.params s.csr a left })

/-- R20, R101, R216: a delay changes nothing of an ATTACH but the time. An ATTACH that rests at a transaction, or at
the capability call, does at the next step what it would have done from the start without that silence, whatever has
come to the port meanwhile; applied again it covers every number of silences. -/
def Obligations.DelayedAttachEndsAsUndelayed : Prop :=
  ∀ s : State, s.life = .absent ∨ s.life = .detached →
    (∀ pre post, s.dropBinding.nextCap = .yes → s.bus = pre ++ .late :: post → pre.length < 10 →
      (∀ a ∈ pre, isLate a = false) →
      ∃ t, exec .attach s = .next t ∧
        ∀ port, step { t with port := port } = exec .attach { s with bus := pre ++ post, port := port })
    ∧ (∀ rest, s.caps = .late :: rest →
      ∃ t, exec .attach s = .next t ∧
        ∀ port, step { t with port := port } = exec .attach { s with caps := rest, port := port })

/-- R101: under the fairness assumption that every call to the transport is eventually answered, an operation that
waits is answered at some point of the run; until then its transaction, its latch and the registers are as they were,
and then it goes on. -/
def Obligations.BlockedOperationGoesOnWhenAnswered : Prop :=
  ∀ (run : Nat → State) (op : Op), IsRun run → TransportAnswers run → GuardOk (run 0) →
    (run 0).active = some op →
    ∃ n, (run n).active = some op ∧ (run n).silent = false ∧ (run n).txn = (run 0).txn
      ∧ (run n).cur = (run 0).cur ∧ (run n).csr = (run 0).csr ∧ run (n + 1) = resume op (run n)

/-! ## Register Transport -/

/-- R162: RDREG at any address is one read; it answers the byte, or logs the failure once and answers
TransportFault; nothing else changes. -/
def Obligations.RdregResult : Prop :=
  ∀ (s : State) (h : Handle) (a : Byte), s.life = .attached h → h.guard = .free →
    (∀ hw fx, s.nextAnswer = .ok hw fx →
      exec (.rdreg a) s = .next (s.settled 1
        [.read a (some (s.readByte a hw)), .response s.caller (.okByte (s.readByte a hw))]))
    ∧ (∀ left, s.nextAnswer = .err left →
      exec (.rdreg a) s = .next { s.settled 1
          [.read a none, .diag ⟨.rd, a⟩, .response s.caller (.fault .transportFault)] with
        life := .attached { h with diag := h.diag ++ [⟨.rd, a⟩] } })

/-- R163, R98, R99, R88: WRREG at any address is one write. On success the storage bits of the register there
become those of the byte; on failure they hold any byte, the failure is logged once and answered
TransportFault; no other address changes, and an address without a register keeps nothing. The further effect
of setting the soft-reset bit is a statement of its own. -/
def Obligations.WrregResult : Prop :=
  ∀ (s : State) (h : Handle) (a b : Byte), s.life = .attached h → h.guard = .free →
    (∀ hw fx, s.nextAnswer = .ok hw fx →
      (∀ r, regAt s.params a = some r → firesSoftReset s.params r b = false) →
      ∃ t, exec (.wrreg a b) s = .next t
        ∧ t = { s.settled 1 [.write a b true, .response s.caller .ok] with csr := t.csr }
        ∧ (∀ r, regAt s.params a = some r → t.storage r = b &&& storageMask s.params r)
        ∧ (regAt s.params a = none → t.csr = s.csr)
        ∧ ∀ x : Byte, x ≠ a → Memory.read t.csr x.toNat = Memory.read s.csr x.toNat)
    ∧ (∀ left, s.nextAnswer = .err left →
      ∃ t, exec (.wrreg a b) s = .next t
        ∧ t = { s.settled 1
            [.write a b false, .diag ⟨.wr, a⟩, .response s.caller (.fault .transportFault)] with
          life := .attached { h with diag := h.diag ++ [⟨.wr, a⟩] }, csr := t.csr }
        ∧ (∀ r, regAt s.params a = some r → t.storage r = left &&& storageMask s.params r)
        ∧ (regAt s.params a = none → t.csr = s.csr)
        ∧ ∀ x : Byte, x ≠ a → Memory.read t.csr x.toNat = Memory.read s.csr x.toNat)

/-- R33, R98, U5: what a successful write that sets the soft-reset bit leaves when SOFT_RST_EFFECT is not the
identity: each register the effect lists holds the byte of its last entry, REG_SOFT_RST keeps the written byte where
no entry is for its address, and every address that is neither written nor listed is unchanged. WRREG ends so;
SETBIT and SETSIG do by their own statements, which give the same `landIn`. That the effect comes as a list with the
write's answer, its last entry for a register counting, is the model's choice (log entry 4). -/
def Obligations.SoftResetEffectIsApplied : Prop :=
  (∀ (p : Params) (m : List Host.Cell) (a b : Byte) (fx : List (Reg × Byte)),
    regAt p a = some .softRst → firesSoftReset p .softRst b = true →
    (∀ front r x back, fx = front ++ (r, x) :: back → (∀ c ∈ back, addrOf p c.1 ≠ addrOf p r) →
      storedIn p (landIn p m a b fx) r &&& storageMask p r = x &&& storageMask p r)
    ∧ ((∀ c ∈ fx, addrOf p c.1 ≠ a) →
      storedIn p (landIn p m a b fx) .softRst &&& storageMask p .softRst = b &&& storageMask p .softRst)
    ∧ ∀ x : Byte, x ≠ a → (∀ c ∈ fx, addrOf p c.1 ≠ x) →
        Memory.read (landIn p m a b fx) x.toNat = Memory.read m x.toNat)
  ∧ ∀ (s : State) (h : Handle) (a b hw : Byte) (fx : List (Reg × Byte)), s.life = .attached h →
    h.guard = .free → s.nextAnswer = .ok hw fx →
    exec (.wrreg a b) s = .next { s.settled 1 [.write a b true, .response s.caller .ok] with
      csr := landIn s.params s.csr a b fx }

/-- R90, R97, R98: a read that follows a successful write of the same register returns the written storage
bits, and in the hardware-driven bits what the chip supplies, where the write has no soft-reset effect. -/
def Obligations.ReadAfterWriteReturnsStorageBits : Prop :=
  ∀ (s : State) (h : Handle) (a b hw hw' : Byte) (fx fx' : List (Reg × Byte)) (r : Reg),
    s.life = .attached h → h.guard = .free → regAt s.params a = some r →
    firesSoftReset s.params r b = false → s.answerAt 0 = .ok hw fx → s.answerAt 1 = .ok hw' fx' →
    ∃ t u, exec (.wrreg a b) s = .next t ∧ exec (.rdreg a) t = .next u
      ∧ u.history = s.history ++ [.write a b true, .response s.caller .ok,
          .read a (some ((b &&& storageMask s.params r) ||| (hw' &&& ~~~ (storageMask s.params r)))),
          .response s.caller
            (.okByte ((b &&& storageMask s.params r) ||| (hw' &&& ~~~ (storageMask s.params r))))]

/-- R88: at an address that holds no register a read answers what the transport supplies, and a write,
successful or failed, changes no register. -/
def Obligations.UnmappedAddressesHoldNothing : Prop :=
  ∀ (s : State) (h : Handle) (a b : Byte), s.life = .attached h → h.guard = .free →
    regAt s.params a = none → isLate s.nextAnswer = false →
    (∀ hw fx, s.nextAnswer = .ok hw fx →
      exec (.rdreg a) s = .next (s.settled 1 [.read a (some hw), .response s.caller (.okByte hw)]))
    ∧ ∃ t, exec (.wrreg a b) s = .next t ∧ t.csr = s.csr

/-! ## Bit-Field Control Surface -/

/-- R182: GETBIT is one read; it answers bit `d.bit` of the byte, or TransportFault and no Boolean; the
writable flag plays no part. -/
def Obligations.GetbitResult : Prop :=
  ∀ (s : State) (h : Handle) (d : Descriptor), s.life = .attached h → h.guard = .free →
    (∀ hw fx, s.nextAnswer = .ok hw fx →
      exec (.getbit d) s = .next (s.settled 1
        [.read d.reg (some (s.readByte d.reg hw)),
          .response s.caller (.okBool ((s.readByte d.reg hw).getLsbD d.bit.toNat))]))
    ∧ (∀ left, s.nextAnswer = .err left →
      exec (.getbit d) s = .next { s.settled 1
          [.read d.reg none, .diag ⟨.rd, d.reg⟩, .response s.caller (.fault .transportFault)] with
        life := .attached { h with diag := h.diag ++ [⟨.rd, d.reg⟩] } })

/-- R186, R242, R243, R246: SETBIT and SETSIG check the value's domain first and the writable flag second,
whatever the guard is, and a rejection changes nothing but the response. -/
def Obligations.RejectionsTouchNothing : Prop :=
  ∀ (s : State) (h : Handle) (v : Value), s.life = .attached h →
    (∀ d : Descriptor, 1 < v.toNat → exec (.setbit d v) s = .next { s with
      history := s.history ++ [.response s.caller (.fault .invalidInput)] })
    ∧ (∀ d : Descriptor, v.toNat ≤ 1 → d.writable = false → exec (.setbit d v) s = .next { s with
      history := s.history ++ [.response s.caller (.fault .notWritable)] })
    ∧ (∀ g : Signal, sigMax s.params g < v.toNat → exec (.setsig g v) s = .next { s with
      history := s.history ++ [.response s.caller (.fault .invalidInput)] })
    ∧ (∀ g : Signal, v.toNat ≤ sigMax s.params g → sigWritable s.params g = false →
      exec (.setsig g v) s = .next { s with
        history := s.history ++ [.response s.caller (.fault .notWritable)] })

/-- R183: SETBIT with a value of {0, 1} and the writable flag set: a fresh read, then the write of the merged
byte, always issued; a failed read aborts the write; each failure is logged once and answered
TransportFault. -/
def Obligations.SetbitResult : Prop :=
  ∀ (s : State) (h : Handle) (d : Descriptor) (v : Value), s.life = .attached h → h.guard = .free →
    v.toNat ≤ 1 → d.writable = true →
    (∀ left, s.answerAt 0 = .err left →
      exec (.setbit d v) s = .next { s.settled 1
          [.read d.reg none, .diag ⟨.rd, d.reg⟩, .response s.caller (.fault .transportFault)] with
        life := .attached { h with diag := h.diag ++ [⟨.rd, d.reg⟩] } })
    ∧ (∀ hw fx, s.answerAt 0 = .ok hw fx → ∀ c new, c = s.readByte d.reg hw →
      new = mergeBit c d.bit (v.toNat == 1) →
      (∀ hw' fx', s.answerAt 1 = .ok hw' fx' →
        exec (.setbit d v) s = .next { s.settled 2
            [.read d.reg (some c), .write d.reg new true, .response s.caller .ok] with
          csr := landIn s.params s.csr d.reg new fx' })
      ∧ (∀ left, s.answerAt 1 = .err left →
        exec (.setbit d v) s = .next { s.settled 2
            [.read d.reg (some c), .write d.reg new false, .diag ⟨.wr, d.reg⟩,
              .response s.caller (.fault .transportFault)] with
          life := .attached { h with diag := h.diag ++ [⟨.wr, d.reg⟩] },
          csr := failIn s.params s.csr d.reg left }))

/-- R188 (a): with no transaction failing and no soft-reset effect on REG_SOFT_RST, SETBIT of a storage bit and then
GETBIT of it answers the value set, and every sibling storage bit is unchanged. -/
def Obligations.SetbitRoundTripKeepsSiblings : Prop :=
  ∀ (s : State) (h : Handle) (d : Descriptor) (v : Value) (r : Reg) (hw0 hw1 hw2 : Byte)
    (fx0 fx1 fx2 : List (Reg × Byte)),
    s.life = .attached h → h.guard = .free → v.toNat ≤ 1 → d.writable = true →
    regAt s.params d.reg = some r → (storageMask s.params r).getLsbD d.bit.toNat = true →
    (r = .softRst → s.params.softRstEffect = .identity) →
    s.answerAt 0 = .ok hw0 fx0 → s.answerAt 1 = .ok hw1 fx1 → s.answerAt 2 = .ok hw2 fx2 →
    ∃ t u b, exec (.setbit d v) s = .next t ∧ exec (.getbit d) t = .next u
      ∧ u.history = t.history ++ [.read d.reg (some b), .response s.caller (.okBool (v.toNat == 1))]
      ∧ ∀ j : Nat, j ≠ d.bit.toNat → (u.storage r).getLsbD j = (s.storage r).getLsbD j

/-- R188 (b): two SETBITs of different storage bits of one register, one after the other, both keep their
bits, in whichever order the guard is taken. -/
def Obligations.TwoBitWritesLoseNeitherUpdate : Prop :=
  ∀ (s : State) (h : Handle) (a : Byte) (i j : BitIdx) (v w : Value) (r : Reg),
    s.life = .attached h → h.guard = .free → v.toNat ≤ 1 → w.toNat ≤ 1 → i ≠ j →
    regAt s.params a = some r → (storageMask s.params r).getLsbD i.toNat = true →
    (storageMask s.params r).getLsbD j.toNat = true →
    (r = .softRst → s.params.softRstEffect = .identity) →
    (∀ k, k < 4 → ∃ hw fx, s.answerAt k = .ok hw fx) →
    ∃ t u, exec (.setbit ⟨a, i, true, true⟩ v) s = .next t
      ∧ exec (.setbit ⟨a, j, true, true⟩ w) t = .next u
      ∧ (u.storage r).getLsbD i.toNat = (v.toNat == 1)
      ∧ (u.storage r).getLsbD j.toNat = (w.toNat == 1)

/-- R184: GETSIG of a bit-kind signal does what GETBIT of its descriptor does; of the byte-kind signal it
answers the whole byte. -/
def Obligations.GetsigReadsTheSignalsRegister : Prop :=
  ∀ (s : State) (h : Handle) (g : Signal), s.life = .attached h → h.guard = .free →
    (∀ r i, sigKind s.params g = .bit r i →
      (∀ hw fx b, s.nextAnswer = .ok hw fx → b = s.readByte (addrOf s.params r) hw →
        exec (.getsig g) s = .next (s.settled 1
          [.read (addrOf s.params r) (some b), .response s.caller (.okBool (b.getLsbD i.toNat))])))
    ∧ (∀ r, sigKind s.params g = .byte r →
      (∀ hw fx b, s.nextAnswer = .ok hw fx → b = s.readByte (addrOf s.params r) hw →
        exec (.getsig g) s = .next (s.settled 1
          [.read (addrOf s.params r) (some b), .response s.caller (.okByte b)])))
    ∧ (∀ r left, (sigKind s.params g = .byte r ∨ ∃ i, sigKind s.params g = .bit r i) →
      s.nextAnswer = .err left →
      exec (.getsig g) s = .next { s.settled 1
          [.read (addrOf s.params r) none, .diag ⟨.rd, addrOf s.params r⟩,
            .response s.caller (.fault .transportFault)] with
        life := .attached { h with diag := h.diag ++ [⟨.rd, addrOf s.params r⟩] } })

/-- R184, R94: GETSIG of an identity signal is answered from the snapshot, without guard or transaction: the
cell zero-extended, or TransportFault without an event when the cell is empty. -/
def Obligations.GetsigAnswersIdentityFromTheSnapshot : Prop :=
  ∀ (s : State) (h : Handle) (r : Result), s.life = .attached h →
    (r = (match h.ident.codeVer with
        | some x => .okByte (x.setWidth 8) | none => .fault .transportFault) →
      exec (.getsig (.ident .codeVer)) s = .next { s with
        history := s.history ++ [.response s.caller r] })
    ∧ (r = (match h.ident.codeType with
        | some x => .okByte (x.setWidth 8) | none => .fault .transportFault) →
      exec (.getsig (.ident .codeType)) s = .next { s with
        history := s.history ++ [.response s.caller r] })
    ∧ (r = (match h.ident.codeDay with | some x => .okByte x | none => .fault .transportFault) →
      exec (.getsig (.ident .codeDay)) s = .next { s with
        history := s.history ++ [.response s.caller r] })
    ∧ (r = (match h.ident.codeMonth with | some x => .okByte x | none => .fault .transportFault) →
      exec (.getsig (.ident .codeMonth)) s = .next { s with
        history := s.history ++ [.response s.caller r] })
    ∧ (r = (match h.ident.codeYear with | some x => .okByte x | none => .fault .transportFault) →
      exec (.getsig (.ident .codeYear)) s = .next { s with
        history := s.history ++ [.response s.caller r] })

/-- R185: SETSIG inside the domain of a writable signal: for the bit kind the read-modify-write of SETBIT; for
the byte kind one write of the whole byte without a read. -/
def Obligations.SetsigWritesTheSignalsRegister : Prop :=
  ∀ (s : State) (h : Handle) (g : Signal) (v : Value), s.life = .attached h → h.guard = .free →
    v.toNat ≤ sigMax s.params g → sigWritable s.params g = true →
    (∀ r i a, sigKind s.params g = .bit r i → a = addrOf s.params r →
      (∀ left, s.answerAt 0 = .err left →
        exec (.setsig g v) s = .next { s.settled 1
            [.read a none, .diag ⟨.rd, a⟩, .response s.caller (.fault .transportFault)] with
          life := .attached { h with diag := h.diag ++ [⟨.rd, a⟩] } })
      ∧ (∀ hw fx, s.answerAt 0 = .ok hw fx → ∀ c new, c = s.readByte a hw →
        new = mergeBit c i (v.toNat == 1) →
        (∀ hw' fx', s.answerAt 1 = .ok hw' fx' →
          exec (.setsig g v) s = .next { s.settled 2
              [.read a (some c), .write a new true, .response s.caller .ok] with
            csr := landIn s.params s.csr a new fx' })
        ∧ (∀ left, s.answerAt 1 = .err left →
          exec (.setsig g v) s = .next { s.settled 2
              [.read a (some c), .write a new false, .diag ⟨.wr, a⟩,
                .response s.caller (.fault .transportFault)] with
            life := .attached { h with diag := h.diag ++ [⟨.wr, a⟩] },
            csr := failIn s.params s.csr a left })))
    ∧ (∀ r a b, sigKind s.params g = .byte r → a = addrOf s.params r → b.toNat = v.toNat →
      (∀ hw fx, s.nextAnswer = .ok hw fx →
        exec (.setsig g v) s = .next { s.settled 1 [.write a b true, .response s.caller .ok] with
          csr := landIn s.params s.csr a b fx })
      ∧ (∀ left, s.nextAnswer = .err left →
        exec (.setsig g v) s = .next { s.settled 1
            [.write a b false, .diag ⟨.wr, a⟩, .response s.caller (.fault .transportFault)] with
          life := .attached { h with diag := h.diag ++ [⟨.wr, a⟩] },
          csr := failIn s.params s.csr a left }))

/-- What a successful write leaves (R98): the storage bits of the register at the address, and, where it has no
soft-reset effect, nothing at any other address; what a failed one leaves (R99). -/
def Obligations.LandedAndFailedWritesTouchOneRegister : Prop :=
  ∀ (p : Params) (m : List Host.Cell) (a b : Byte) (fx : List (Reg × Byte)),
    ((∀ r, regAt p a = some r → firesSoftReset p r b = false) →
      (∀ r, regAt p a = some r →
        storedIn p (landIn p m a b fx) r &&& storageMask p r = b &&& storageMask p r)
      ∧ ∀ x : Byte, x ≠ a → Memory.read (landIn p m a b fx) x.toNat = Memory.read m x.toNat)
    ∧ (∀ r, regAt p a = some r →
      storedIn p (failIn p m a b) r &&& storageMask p r = b &&& storageMask p r)
    ∧ ∀ x : Byte, x ≠ a → Memory.read (failIn p m a b) x.toNat = Memory.read m x.toNat

/-- R29 to R49: which bits of each register are storage bits. A register without any keeps nothing of a successful or
a failed write, and a read of it returns what the chip supplies. -/
def Obligations.StorageBitsOfEachRegister : Prop :=
  ∀ p : Params,
    (∀ r ∈ [Reg.rev, .prsLo, .prsHi, .intLo, .intHi, .day, .month, .year], storageMask p r = 0x00#8)
    ∧ (∀ r ∈ [Reg.scratch, .rstLo, .rstHi, .lpmodeLo, .lpmodeHi, .modselLo, .modselHi],
      storageMask p r = 0xFF#8)
    ∧ (∀ j, (storageMask p .ledTest).getLsbD j = true ↔
      j = p.led0.toNat ∨ j = p.led1.toNat ∨ j = p.led2.toNat ∨ j = p.led3.toNat)
    ∧ (∀ j, (storageMask p .softRst).getLsbD j = true ↔ j = p.softRstBit.toNat)
    ∧ (∀ j, (storageMask p .hitless).getLsbD j = true ↔ p.wHitless = true ∧ j = p.hitlessBit.toNat)
    ∧ (∀ j, (storageMask p .sfp0).getLsbD j = true ↔ p.sfpTxEn.half = .sfp0 ∧ j = p.sfpTxEn.bit.toNat)
    ∧ (∀ j, (storageMask p .sfp1).getLsbD j = true ↔ p.sfpTxEn.half = .sfp1 ∧ j = p.sfpTxEn.bit.toNat)
    ∧ ∀ (m : List Host.Cell) (a b : Byte) (fx : List (Reg × Byte)) (r : Reg), regAt p a = some r →
        storageMask p r = 0x00#8 →
        landIn p m a b fx = m ∧ failIn p m a b = m
        ∧ ∀ (s : State) (hw : Byte), s.params = p → s.readByte a hw = hw

/-- R188 (c), R50: setting one module's bit of a group changes that module's bit as asked and no other
module's. -/
def Obligations.ModuleWriteLeavesOtherModulesAlone : Prop :=
  ∀ (s : State) (h : Handle) (g : ModGroup) (k l : Fin 16) (v : Value),
    s.life = .attached h → h.guard = .free → validParams s.params = true →
    groupWritable g = true → v.toNat ≤ 1 →
    (∀ n, n < 2 → ∃ hw fx, s.answerAt n = .ok hw fx) →
    ∃ t, exec (.setsig (.qsfp g k) v) s = .next t ∧
      (t.storage (moduleReg g (17 + l.val))).getLsbD (moduleBit (17 + l.val)).toNat
        = if l = k then v.toNat == 1
          else (s.storage (moduleReg g (17 + l.val))).getLsbD (moduleBit (17 + l.val)).toNat

/-- R295: a fault-free operation has its exact number of transactions, and one that does not reach the bus has
none. -/
def Obligations.TransactionCountsAreExact : Prop :=
  ∀ (s : State) (h : Handle) (i : Instr), s.life = .attached h → h.guard = .free → i ≠ .detach →
    i ≠ .attach → (∀ k, k < 2 → ∃ hw fx, s.answerAt k = .ok hw fx) →
    ∃ t es, exec i s = .next t ∧ t.history = s.history ++ es
      ∧ (busEvents es).length = if reachesBus s.params i then txnCount s.params i else 0

/-! ## Bring-up and detach -/

/-- R211, R244: without byte transactions ATTACH answers CapabilityUnavailable, life is ABSENT, no transaction is
issued and no register changes. That `bstep` has no value then is log entry 9. -/
def Obligations.AttachWithoutCapabilityProducesNoHandle : Prop :=
  ∀ s : State, s.life = .absent ∨ s.life = .detached → s.dropBinding.nextCap = .no →
    exec .attach s = .next { s.dropBinding.dropCap with
      life := .absent, bstep := none, active := none, phase := .idle,
      history := s.history ++ [.response s.caller (.fault .capabilityUnavailable)] }

/-- R210, R212 to R214, R282: a fault-free ATTACH: its ten transactions in order, the response Ok, the identity
captured, the six baseline registers written, every other register and the rest of the state as before. That
`bstep` is DONE afterwards is log entry 9. -/
def Obligations.FaultFreeAttachSetsTheBaseline : Prop :=
  ∀ (s s0 : State) (rev day month year : Byte), s.life = .absent ∨ s.life = .detached →
    s.dropBinding.nextCap = .yes → validParams s.params = true → s0 = s.dropBinding.dropCap →
    readOf (s0.answerAt 0) = some rev → readOf (s0.answerAt 1) = some day →
    readOf (s0.answerAt 2) = some month → readOf (s0.answerAt 3) = some year →
    (∀ k, 4 ≤ k → k < 10 → ∃ hw fx, s0.answerAt k = .ok hw fx) →
    ∃ t, exec .attach s = .next t
      ∧ t = { s0.settled 10
          [.read (addrOf s.params .rev) (some rev), .read (addrOf s.params .day) (some day),
            .read (addrOf s.params .month) (some month), .read (addrOf s.params .year) (some year),
            .write (addrOf s.params .rstLo) 0xFF#8 true, .write (addrOf s.params .rstHi) 0xFF#8 true,
            .write (addrOf s.params .lpmodeLo) 0x00#8 true, .write (addrOf s.params .lpmodeHi) 0x00#8 true,
            .write (addrOf s.params .modselLo) 0x00#8 true, .write (addrOf s.params .modselHi) 0x00#8 true,
            .response s.caller .ok] with
          life := .attached ⟨s.nextBinding, .free,
            ⟨some (codeVerOf rev), some (codeTypeOf rev), some day, some month, some year⟩, []⟩,
          bstep := some .done, csr := t.csr }
      ∧ t.storage .rstLo = 0xFF#8 ∧ t.storage .rstHi = 0xFF#8
      ∧ t.storage .lpmodeLo = 0x00#8 ∧ t.storage .lpmodeHi = 0x00#8
      ∧ t.storage .modselLo = 0x00#8 ∧ t.storage .modselHi = 0x00#8
      ∧ ∀ r, r ∉ [Reg.rstLo, .rstHi, .lpmodeLo, .lpmodeHi, .modselLo, .modselHi] →
          t.storage r = s.storage r

/-- R215: whatever fails in steps 2 to 4, ATTACH responds Ok and the handle is attached: each failed read
leaves its cells empty, each failed write leaves any byte in its register, and each failure is logged, in
order. -/
def Obligations.AttachIsBestEffort : Prop :=
  ∀ s s0 : State, s.life = .absent ∨ s.life = .detached → s.dropBinding.nextCap = .yes →
    validParams s.params = true → s0 = s.dropBinding.dropCap →
    (∀ k, k < 10 → isLate (s0.answerAt k) = false) →
    ∃ t es, exec .attach s = .next t
      ∧ t.history = s.history ++ es ++ [.response s.caller .ok]
      ∧ (busEvents es).length = 10
      ∧ t.life = .attached ⟨s.nextBinding, .free,
          ⟨(readOf (s0.answerAt 0)).map codeVerOf, (readOf (s0.answerAt 0)).map codeTypeOf,
            readOf (s0.answerAt 1), readOf (s0.answerAt 2), readOf (s0.answerAt 3)⟩,
          diagOf ⟨.rd, addrOf s.params .rev⟩ (s0.answerAt 0)
            ++ diagOf ⟨.rd, addrOf s.params .day⟩ (s0.answerAt 1)
            ++ diagOf ⟨.rd, addrOf s.params .month⟩ (s0.answerAt 2)
            ++ diagOf ⟨.rd, addrOf s.params .year⟩ (s0.answerAt 3)
            ++ diagOf ⟨.wr, addrOf s.params .rstLo⟩ (s0.answerAt 4)
            ++ diagOf ⟨.wr, addrOf s.params .rstHi⟩ (s0.answerAt 5)
            ++ diagOf ⟨.wr, addrOf s.params .lpmodeLo⟩ (s0.answerAt 6)
            ++ diagOf ⟨.wr, addrOf s.params .lpmodeHi⟩ (s0.answerAt 7)
            ++ diagOf ⟨.wr, addrOf s.params .modselLo⟩ (s0.answerAt 8)
            ++ diagOf ⟨.wr, addrOf s.params .modselHi⟩ (s0.answerAt 9)⟩
      ∧ t.storage .rstLo = leftOf 0xFF#8 (s0.answerAt 4)
      ∧ t.storage .rstHi = leftOf 0xFF#8 (s0.answerAt 5)
      ∧ t.storage .lpmodeLo = leftOf 0x00#8 (s0.answerAt 6)
      ∧ t.storage .lpmodeHi = leftOf 0x00#8 (s0.answerAt 7)
      ∧ t.storage .modselLo = leftOf 0x00#8 (s0.answerAt 8)
      ∧ t.storage .modselHi = leftOf 0x00#8 (s0.answerAt 9)

/-- Frame of ATTACH: only the six baseline registers' addresses may change, and no request, parameter or
pending grant does (R214, R210). -/
def Obligations.AttachFrame : Prop :=
  ∀ s t : State, exec .attach s = .next t → validParams s.params = true →
    (∀ x : Byte, (∀ r ∈ [Reg.rstLo, .rstHi, .lpmodeLo, .lpmodeHi, .modselLo, .modselHi],
        addrOf s.params r ≠ x) → Memory.read t.csr x.toNat = Memory.read s.csr x.toNat)
    ∧ t.params = s.params ∧ t.waiting = s.waiting ∧ t.port = s.port ∧ t.grants = s.grants
    ∧ t.caller = s.caller

/-- R218: DETACH with the guard free and no request waiting destroys the handle and responds Ok; no register
changes and no transaction is issued. That `bstep` has no value then (log entry 9), and that DETACH is refused
whenever it runs with a request waiting (log entry 7, after D21 and U16), are the model's choices. -/
def Obligations.DetachResult : Prop :=
  ∀ (s : State) (h : Handle), s.life = .attached h →
    (h.guard = .free → s.waiting = [] →
      exec .detach s = .next { s.settled 0 [.response s.caller .ok] with
        life := .detached, bstep := none })
    ∧ (s.waiting ≠ [] → exec .detach s = .refused .detachWhileWaiting)

/-- R24, R217: operations other than ATTACH have a step only in ATTACHED; ATTACH only in ABSENT and
DETACHED. -/
def Obligations.LifecycleGatesOperations : Prop :=
  ∀ (s : State) (i : Instr),
    (i ≠ .attach → (∀ h, s.life ≠ .attached h) → exec i s = .refused .notAccepted)
    ∧ (∀ h, s.life = .attached h ∨ s.life = .bringup h → exec .attach s = .refused .notAccepted)

/-! ## Frames -/

/-- Frame of RDREG, GETBIT and GETSIG, in every case in which they answer a next state: no byte of the register
space, no identity cell, no parameter, no request of the port and no sequencing state but the operation's own
changes (R162, R182, R184, R86). -/
def Obligations.ReadOperationsFrame : Prop :=
  ∀ (s t : State) (i : Instr), (∃ a, i = .rdreg a) ∨ (∃ d, i = .getbit d) ∨ (∃ g, i = .getsig g) →
    exec i s = .next t →
    t.csr = s.csr ∧ t.params = s.params ∧ t.bstep = s.bstep ∧ t.port = s.port
    ∧ t.bindings = s.bindings ∧ t.caps = s.caps ∧ t.grants = s.grants ∧ t.caller = s.caller
    ∧ ∃ h h', s.life = .attached h ∧ t.life = .attached h' ∧ h'.ident = h.ident
        ∧ h'.endpoint = h.endpoint

/-- Frame of WRREG, SETBIT and SETSIG, in every case in which they answer a next state and do not store to the
soft-reset register with an effect configured: only the byte at the address the operation stores to may change in the
register space, and no identity cell, parameter, request of the port or bring-up pointer changes (R163, R183, R185,
R98, R99). What the effect adds is the statement of its own above; the rest of the frame holds with it too. -/
def Obligations.StoreOperationsFrame : Prop :=
  ∀ (s t : State) (i : Instr),
    (∃ a b, i = .wrreg a b) ∨ (∃ d v, i = .setbit d v) ∨ (∃ g v, i = .setsig g v) →
    exec i s = .next t →
    (∀ a, storeTarget s.params i = some a →
      (regAt s.params a = some .softRst → s.params.softRstEffect = .identity) →
      ∀ x : Byte, x ≠ a → Memory.read t.csr x.toNat = Memory.read s.csr x.toNat)
    ∧ (storeTarget s.params i = none → t.csr = s.csr)
    ∧ t.params = s.params ∧ t.bstep = s.bstep ∧ t.port = s.port
    ∧ t.bindings = s.bindings ∧ t.caps = s.caps ∧ t.grants = s.grants ∧ t.caller = s.caller
    ∧ ∃ h h', s.life = .attached h ∧ t.life = .attached h' ∧ h'.ident = h.ident
        ∧ h'.endpoint = h.endpoint

/-! ## Whole-machine rules -/

/-- R281: the state before the first ATTACH, in what the spec gives for it; no handle and so no guard,
identity cell or diagnostic list; the first request accepted is ATTACH. -/
def Obligations.ResetStateIsAbsentAndIdle : Prop :=
  State.reset.life = .absent ∧ State.reset.cur = none ∧ State.reset.bstep = none
  ∧ State.reset.phase = .idle ∧ State.reset.active = none ∧ State.reset.txn = none
  ∧ State.reset.waiting = [] ∧ State.reset.history = [] ∧ State.reset.life.handle? = none
  ∧ (∀ i, i ≠ .attach → exec i State.reset = .refused .notAccepted)
  ∧ ∃ t, exec .attach State.reset = .next t

/-- The model's choice of log entry 11: with nothing in flight, nothing waiting and no request at the port, as at
reset, a step changes nothing. -/
def Obligations.StepWithoutRequestChangesNothing : Prop :=
  (State.reset.active = none ∧ State.reset.waiting = [] ∧ State.reset.port = [])
  ∧ ∀ s : State, s.active = none → s.waiting = [] → s.port = [] → step s = .next s

/-- The invariants below hold at reset. -/
def Obligations.ResetMeetsTheInvariants : Prop :=
  CsrOk State.reset ∧ GuardOk State.reset ∧ LatchFresh State.reset

/-- Every step keeps the register space canonical and free of hardware-driven bits (R29). -/
def Obligations.StepKeepsRegisterSpaceCanonical : Prop :=
  ∀ s s' : State, CsrOk s → step s = .next s' → CsrOk s'

/-- Every step keeps the guard discipline: at most one operation and one transaction in flight, its requester
the guard's holder, and the guard free when nothing is in flight (R23, R168). The phase is IDLE with nothing in flight
and that of the transaction otherwise (R26); the phase of an ATTACH is the model's choice (log entry 10). -/
def Obligations.StepKeepsTheGuardDiscipline : Prop :=
  ∀ s s' : State, GuardOk s → step s = .next s' → GuardOk s'

/-- Every step keeps the latch fresh: between the read and the write of a read-modify-write no other operation
changes its register (R85, R285). -/
def Obligations.StepKeepsTheLatchFresh : Prop :=
  ∀ s s' : State, GuardOk s → LatchFresh s → step s = .next s' → LatchFresh s'

/-- R85, R285: while the operation in flight is unanswered, no step issues another transaction, changes a
register, or touches what is in flight. -/
def Obligations.NothingInterleavesWithTheOperationInFlight : Prop :=
  ∀ (s s' : State) (op : Op), GuardOk s → s.active = some op → s.silent = true →
    step s = .next s' →
    s'.active = some op ∧ s'.txn = s.txn ∧ s'.cur = s.cur ∧ s'.csr = s.csr
    ∧ ∃ es, s'.history = s.history ++ es ∧ busEvents es = []

/-- R51, R53: no step changes the parameters, and so not the signal table. -/
def Obligations.StepKeepsTheParameters : Prop :=
  ∀ s s' : State, step s = .next s' → s'.params = s.params

/-- R22, R94: while a handle is attached no step changes its identity cells or its endpoint; only DETACH ends
them. -/
def Obligations.IdentityIsNeverRefreshed : Prop :=
  ∀ (s s' : State) (h : Handle), GuardOk s → s.life = .attached h → step s = .next s' →
    s'.life = .detached
    ∨ ∃ h', s'.life = .attached h' ∧ h'.ident = h.ident ∧ h'.endpoint = h.endpoint

/-- R27, R165, R102: a step only adds to the history; in what it adds, the diagnostic events are exactly those
of its failed transactions, in order, and at most one response is delivered; the `h.diag` of a handle that
exists before and after grows by the same events. -/
def Obligations.EveryFailureIsLoggedOnce : Prop :=
  ∀ s s' : State, step s = .next s' →
    ∃ es, s'.history = s.history ++ es ∧ diagEvents es = failures es
      ∧ (es.filter isResponse).length ≤ 1
      ∧ ∀ h h', s.life.handle? = some h → s'.life.handle? = some h' → h'.diag = h.diag ++ diagEvents es

/-- R98, R100: a step changes the byte at an address only through a write transaction at that address, or, where a
soft-reset effect is configured, through a write transaction at REG_SOFT_RST. -/
def Obligations.RegistersChangeOnlyByWriteTransactions : Prop :=
  ∀ s s' : State, step s = .next s' →
    ∃ es, s'.history = s.history ++ es
      ∧ ∀ a : Byte, writesTo a es = false →
          s.params.softRstEffect = .identity ∨ writesTo (addrOf s.params .softRst) es = false →
          Memory.read s'.csr a.toNat = Memory.read s.csr a.toNat
end

