-- ==== Sys2Proof/Laws/Decode.lean ====
section
/-! SUPPORT. The command word and its fields, and the signal ids and their signals, are inverse to each
other (R120, R126). -/

namespace Sys2Proof

/-- Taking a word apart after putting it together gives the fields back (R120). -/
theorem Fields.ofWord_toWord (f : Fields) : Fields.ofWord f.toWord = f := by
  obtain ⟨op, a, bit, r, w, z, v⟩ := f
  simp only [Fields.ofWord, Fields.toWord, Fields.mk.injEq]
  refine ⟨?_, ?_, ?_, ?_, ?_, ?_, ?_⟩ <;>
  · ext i hi
    simp only [BitVec.getElem_extractLsb', BitVec.getLsbD_append]
    interval_cases i <;> simp [BitVec.getLsbD_eq_getElem]

/-- Putting a word together after taking it apart gives the word back (R120). -/
theorem Fields.toWord_ofWord (cw : CmdWord) : (Fields.ofWord cw).toWord = cw := by
  simp only [Fields.ofWord, Fields.toWord]
  refine BitVec.eq_of_getLsbD_eq fun i hi => ?_
  simp only [BitVec.getLsbD_append, BitVec.getLsbD_extractLsb']
  interval_cases i <;> simp

/-- A signal is found under its own id (R126). -/
theorem Signal.ofSid_sid (g : Signal) : Signal.ofSid g.sid = some g := by
  cases g with
  | ident f => cases f <;> rfl
  | ledTest k => revert k; decide
  | scratch => rfl
  | softRst => rfl
  | qsfp g k => cases g <;> (revert k; decide)
  | hitless => rfl
  | sfpStat k => revert k; decide
  | sfpTxEn => rfl

set_option maxRecDepth 4000 in
/-- The id of a found signal is the id it was found under (R126). -/
theorem Signal.sid_ofSid : ∀ sid : Byte, (Signal.ofSid sid).map Signal.sid = none
    ∨ (Signal.ofSid sid).map Signal.sid = some sid := by
  decide

end Sys2Proof
end

