-- ==== Sys2Proof/Laws/Memory.lean ====
section
/-! SUPPORT. The register space: read after write, and that a write keeps the canonical form. -/

namespace Sys2Proof.Machine

@[simp] theorem Memory.wf_nil : Memory.wf [] = true := rfl

/-- A read at the written address gives the byte written. -/
theorem Memory.read_write_same (m : List Host.Cell) (a : Nat) (b : Byte) :
    Memory.read (Memory.write m a b) a = some b := by
  induction m with
  | nil => simp [Memory.write, Memory.read]
  | cons c rest ih =>
    obtain ⟨k, v⟩ := c
    simp only [Memory.write]
    split
    · simp [Memory.read]
    · split
      · simp [Memory.read]
      · rename_i h1 h2
        have : k ≠ a := fun e => h2 e.symm
        simp [Memory.read, this, ih]

/-- A read at another address gives what it gave before. -/
theorem Memory.read_write_other (m : List Host.Cell) (a x : Nat) (b : Byte) (hx : x ≠ a) :
    Memory.read (Memory.write m a b) x = Memory.read m x := by
  induction m with
  | nil => simp [Memory.write, Memory.read, hx.symm]
  | cons c rest ih =>
    obtain ⟨k, v⟩ := c
    simp only [Memory.write]
    split
    · simp [Memory.read, hx.symm]
    · split
      · rename_i h1 h2
        subst h2
        simp [Memory.read, hx.symm]
      · simp [Memory.read, ih]

theorem Memory.risingFrom_write (m : List Host.Cell) (lo a : Nat) (b : Byte)
    (h : Memory.risingFrom lo m = true) (hlo : lo < a) :
    Memory.risingFrom lo (Memory.write m a b) = true := by
  induction m generalizing lo with
  | nil => simp [Memory.write, Memory.risingFrom, hlo]
  | cons c rest ih =>
    obtain ⟨k, v⟩ := c
    simp only [Memory.risingFrom, Bool.and_eq_true, decide_eq_true_eq] at h
    simp only [Memory.write]
    split
    · simp [Memory.risingFrom, h.2, *]
    · split
      · rename_i h1 h2
        subst h2
        simp [Memory.risingFrom, hlo, h.2]
      · simp only [Memory.risingFrom, Bool.and_eq_true, decide_eq_true_eq]
        exact ⟨h.1, ih k h.2 (by omega)⟩

/-- A write keeps the canonical form. -/
theorem Memory.wf_write (m : List Host.Cell) (a : Nat) (b : Byte) (h : Memory.wf m = true) :
    Memory.wf (Memory.write m a b) = true := by
  cases m with
  | nil => rfl
  | cons c rest =>
    obtain ⟨k, v⟩ := c
    simp only [Memory.wf] at h
    simp only [Memory.write]
    split
    · simp [Memory.wf, Memory.risingFrom, *]
    · split
      · rename_i h1 h2
        subst h2
        simpa [Memory.wf] using h
      · simp only [Memory.wf]
        exact Memory.risingFrom_write rest k a b h (by omega)

/-- Every entry after a write is the one written or was there before. -/
theorem Memory.mem_write (m : List Host.Cell) (a : Nat) (b : Byte) (c : Host.Cell)
    (h : c ∈ Memory.write m a b) : c = (a, b) ∨ c ∈ m := by
  induction m with
  | nil => simpa [Memory.write] using h
  | cons d rest ih =>
    obtain ⟨k, v⟩ := d
    simp only [Memory.write] at h
    split at h
    · simpa using h
    · split at h
      · rcases List.mem_cons.mp h with h | h
        · exact .inl h
        · exact .inr (List.mem_cons_of_mem _ h)
      · rcases List.mem_cons.mp h with h | h
        · exact .inr (by simp [h])
        · rcases ih h with h | h
          · exact .inl h
          · exact .inr (List.mem_cons_of_mem _ h)

end Sys2Proof.Machine
end

