-- ==== Sys2Proof/Laws/State.lean ====
section
/-! SUPPORT. What each named update of the state leaves in each field, true by unfolding, and how the
handle's updates act on the lifecycle state. -/

namespace Sys2Proof.Machine

variable (s : State)

@[simp] theorem State.dropAnswer_params : (s.dropAnswer).params = s.params := rfl
@[simp] theorem State.dropAnswer_life : (s.dropAnswer).life = s.life := rfl
@[simp] theorem State.dropAnswer_cur : (s.dropAnswer).cur = s.cur := rfl
@[simp] theorem State.dropAnswer_bstep : (s.dropAnswer).bstep = s.bstep := rfl
@[simp] theorem State.dropAnswer_phase : (s.dropAnswer).phase = s.phase := rfl
@[simp] theorem State.dropAnswer_active : (s.dropAnswer).active = s.active := rfl
@[simp] theorem State.dropAnswer_txn : (s.dropAnswer).txn = s.txn := rfl
@[simp] theorem State.dropAnswer_waiting : (s.dropAnswer).waiting = s.waiting := rfl
@[simp] theorem State.dropAnswer_csr : (s.dropAnswer).csr = s.csr := rfl
@[simp] theorem State.dropAnswer_port : (s.dropAnswer).port = s.port := rfl
@[simp] theorem State.dropAnswer_bus : (s.dropAnswer).bus = s.bus.tail := rfl
@[simp] theorem State.dropAnswer_bindings : (s.dropAnswer).bindings = s.bindings := rfl
@[simp] theorem State.dropAnswer_caps : (s.dropAnswer).caps = s.caps := rfl
@[simp] theorem State.dropAnswer_grants : (s.dropAnswer).grants = s.grants := rfl
@[simp] theorem State.dropAnswer_draws : (s.dropAnswer).draws = if s.bus.isEmpty then s.draws + 1 else s.draws := rfl
@[simp] theorem State.dropAnswer_caller : (s.dropAnswer).caller = s.caller := rfl
@[simp] theorem State.dropAnswer_history : (s.dropAnswer).history = s.history := rfl

@[simp] theorem State.dropBinding_params : (s.dropBinding).params = s.params := rfl
@[simp] theorem State.dropBinding_life : (s.dropBinding).life = s.life := rfl
@[simp] theorem State.dropBinding_cur : (s.dropBinding).cur = s.cur := rfl
@[simp] theorem State.dropBinding_bstep : (s.dropBinding).bstep = s.bstep := rfl
@[simp] theorem State.dropBinding_phase : (s.dropBinding).phase = s.phase := rfl
@[simp] theorem State.dropBinding_active : (s.dropBinding).active = s.active := rfl
@[simp] theorem State.dropBinding_txn : (s.dropBinding).txn = s.txn := rfl
@[simp] theorem State.dropBinding_waiting : (s.dropBinding).waiting = s.waiting := rfl
@[simp] theorem State.dropBinding_csr : (s.dropBinding).csr = s.csr := rfl
@[simp] theorem State.dropBinding_port : (s.dropBinding).port = s.port := rfl
@[simp] theorem State.dropBinding_bus : (s.dropBinding).bus = s.bus := rfl
@[simp] theorem State.dropBinding_bindings : (s.dropBinding).bindings = s.bindings.tail := rfl
@[simp] theorem State.dropBinding_caps : (s.dropBinding).caps = s.caps := rfl
@[simp] theorem State.dropBinding_grants : (s.dropBinding).grants = s.grants := rfl
@[simp] theorem State.dropBinding_draws : (s.dropBinding).draws = if s.bindings.isEmpty then s.draws + 1 else s.draws := rfl
@[simp] theorem State.dropBinding_caller : (s.dropBinding).caller = s.caller := rfl
@[simp] theorem State.dropBinding_history : (s.dropBinding).history = s.history := rfl

@[simp] theorem State.dropCap_params : (s.dropCap).params = s.params := rfl
@[simp] theorem State.dropCap_life : (s.dropCap).life = s.life := rfl
@[simp] theorem State.dropCap_cur : (s.dropCap).cur = s.cur := rfl
@[simp] theorem State.dropCap_bstep : (s.dropCap).bstep = s.bstep := rfl
@[simp] theorem State.dropCap_phase : (s.dropCap).phase = s.phase := rfl
@[simp] theorem State.dropCap_active : (s.dropCap).active = s.active := rfl
@[simp] theorem State.dropCap_txn : (s.dropCap).txn = s.txn := rfl
@[simp] theorem State.dropCap_waiting : (s.dropCap).waiting = s.waiting := rfl
@[simp] theorem State.dropCap_csr : (s.dropCap).csr = s.csr := rfl
@[simp] theorem State.dropCap_port : (s.dropCap).port = s.port := rfl
@[simp] theorem State.dropCap_bus : (s.dropCap).bus = s.bus := rfl
@[simp] theorem State.dropCap_bindings : (s.dropCap).bindings = s.bindings := rfl
@[simp] theorem State.dropCap_caps : (s.dropCap).caps = s.caps.tail := rfl
@[simp] theorem State.dropCap_grants : (s.dropCap).grants = s.grants := rfl
@[simp] theorem State.dropCap_draws : (s.dropCap).draws = if s.caps.isEmpty then s.draws + 1 else s.draws := rfl
@[simp] theorem State.dropCap_caller : (s.dropCap).caller = s.caller := rfl
@[simp] theorem State.dropCap_history : (s.dropCap).history = s.history := rfl

@[simp] theorem State.dropGrant_params : (s.dropGrant).params = s.params := rfl
@[simp] theorem State.dropGrant_life : (s.dropGrant).life = s.life := rfl
@[simp] theorem State.dropGrant_cur : (s.dropGrant).cur = s.cur := rfl
@[simp] theorem State.dropGrant_bstep : (s.dropGrant).bstep = s.bstep := rfl
@[simp] theorem State.dropGrant_phase : (s.dropGrant).phase = s.phase := rfl
@[simp] theorem State.dropGrant_active : (s.dropGrant).active = s.active := rfl
@[simp] theorem State.dropGrant_txn : (s.dropGrant).txn = s.txn := rfl
@[simp] theorem State.dropGrant_waiting : (s.dropGrant).waiting = s.waiting := rfl
@[simp] theorem State.dropGrant_csr : (s.dropGrant).csr = s.csr := rfl
@[simp] theorem State.dropGrant_port : (s.dropGrant).port = s.port := rfl
@[simp] theorem State.dropGrant_bus : (s.dropGrant).bus = s.bus := rfl
@[simp] theorem State.dropGrant_bindings : (s.dropGrant).bindings = s.bindings := rfl
@[simp] theorem State.dropGrant_caps : (s.dropGrant).caps = s.caps := rfl
@[simp] theorem State.dropGrant_grants : (s.dropGrant).grants = s.grants.tail := rfl
@[simp] theorem State.dropGrant_draws : (s.dropGrant).draws = if s.grants.isEmpty then s.draws + 1 else s.draws := rfl
@[simp] theorem State.dropGrant_caller : (s.dropGrant).caller = s.caller := rfl
@[simp] theorem State.dropGrant_history : (s.dropGrant).history = s.history := rfl

@[simp] theorem State.onHandle_params (f : Handle → Handle) : (s.onHandle f).params = s.params := rfl
@[simp] theorem State.onHandle_life (f : Handle → Handle) : (s.onHandle f).life = s.life.onHandle f := rfl
@[simp] theorem State.onHandle_cur (f : Handle → Handle) : (s.onHandle f).cur = s.cur := rfl
@[simp] theorem State.onHandle_bstep (f : Handle → Handle) : (s.onHandle f).bstep = s.bstep := rfl
@[simp] theorem State.onHandle_phase (f : Handle → Handle) : (s.onHandle f).phase = s.phase := rfl
@[simp] theorem State.onHandle_active (f : Handle → Handle) : (s.onHandle f).active = s.active := rfl
@[simp] theorem State.onHandle_txn (f : Handle → Handle) : (s.onHandle f).txn = s.txn := rfl
@[simp] theorem State.onHandle_waiting (f : Handle → Handle) : (s.onHandle f).waiting = s.waiting := rfl
@[simp] theorem State.onHandle_csr (f : Handle → Handle) : (s.onHandle f).csr = s.csr := rfl
@[simp] theorem State.onHandle_port (f : Handle → Handle) : (s.onHandle f).port = s.port := rfl
@[simp] theorem State.onHandle_bus (f : Handle → Handle) : (s.onHandle f).bus = s.bus := rfl
@[simp] theorem State.onHandle_bindings (f : Handle → Handle) : (s.onHandle f).bindings = s.bindings := rfl
@[simp] theorem State.onHandle_caps (f : Handle → Handle) : (s.onHandle f).caps = s.caps := rfl
@[simp] theorem State.onHandle_grants (f : Handle → Handle) : (s.onHandle f).grants = s.grants := rfl
@[simp] theorem State.onHandle_draws (f : Handle → Handle) : (s.onHandle f).draws = s.draws := rfl
@[simp] theorem State.onHandle_caller (f : Handle → Handle) : (s.onHandle f).caller = s.caller := rfl
@[simp] theorem State.onHandle_history (f : Handle → Handle) : (s.onHandle f).history = s.history := rfl

@[simp] theorem State.onIdent_params (f : Ident → Ident) : (s.onIdent f).params = s.params := rfl
@[simp] theorem State.onIdent_life (f : Ident → Ident) : (s.onIdent f).life = s.life.onHandle (fun h => { h with ident := f h.ident }) := rfl
@[simp] theorem State.onIdent_cur (f : Ident → Ident) : (s.onIdent f).cur = s.cur := rfl
@[simp] theorem State.onIdent_bstep (f : Ident → Ident) : (s.onIdent f).bstep = s.bstep := rfl
@[simp] theorem State.onIdent_phase (f : Ident → Ident) : (s.onIdent f).phase = s.phase := rfl
@[simp] theorem State.onIdent_active (f : Ident → Ident) : (s.onIdent f).active = s.active := rfl
@[simp] theorem State.onIdent_txn (f : Ident → Ident) : (s.onIdent f).txn = s.txn := rfl
@[simp] theorem State.onIdent_waiting (f : Ident → Ident) : (s.onIdent f).waiting = s.waiting := rfl
@[simp] theorem State.onIdent_csr (f : Ident → Ident) : (s.onIdent f).csr = s.csr := rfl
@[simp] theorem State.onIdent_port (f : Ident → Ident) : (s.onIdent f).port = s.port := rfl
@[simp] theorem State.onIdent_bus (f : Ident → Ident) : (s.onIdent f).bus = s.bus := rfl
@[simp] theorem State.onIdent_bindings (f : Ident → Ident) : (s.onIdent f).bindings = s.bindings := rfl
@[simp] theorem State.onIdent_caps (f : Ident → Ident) : (s.onIdent f).caps = s.caps := rfl
@[simp] theorem State.onIdent_grants (f : Ident → Ident) : (s.onIdent f).grants = s.grants := rfl
@[simp] theorem State.onIdent_draws (f : Ident → Ident) : (s.onIdent f).draws = s.draws := rfl
@[simp] theorem State.onIdent_caller (f : Ident → Ident) : (s.onIdent f).caller = s.caller := rfl
@[simp] theorem State.onIdent_history (f : Ident → Ident) : (s.onIdent f).history = s.history := rfl

@[simp] theorem State.log_params (e : Event) : (s.log e).params = s.params := rfl
@[simp] theorem State.log_life (e : Event) : (s.log e).life = s.life := rfl
@[simp] theorem State.log_cur (e : Event) : (s.log e).cur = s.cur := rfl
@[simp] theorem State.log_bstep (e : Event) : (s.log e).bstep = s.bstep := rfl
@[simp] theorem State.log_phase (e : Event) : (s.log e).phase = s.phase := rfl
@[simp] theorem State.log_active (e : Event) : (s.log e).active = s.active := rfl
@[simp] theorem State.log_txn (e : Event) : (s.log e).txn = s.txn := rfl
@[simp] theorem State.log_waiting (e : Event) : (s.log e).waiting = s.waiting := rfl
@[simp] theorem State.log_csr (e : Event) : (s.log e).csr = s.csr := rfl
@[simp] theorem State.log_port (e : Event) : (s.log e).port = s.port := rfl
@[simp] theorem State.log_bus (e : Event) : (s.log e).bus = s.bus := rfl
@[simp] theorem State.log_bindings (e : Event) : (s.log e).bindings = s.bindings := rfl
@[simp] theorem State.log_caps (e : Event) : (s.log e).caps = s.caps := rfl
@[simp] theorem State.log_grants (e : Event) : (s.log e).grants = s.grants := rfl
@[simp] theorem State.log_draws (e : Event) : (s.log e).draws = s.draws := rfl
@[simp] theorem State.log_caller (e : Event) : (s.log e).caller = s.caller := rfl
@[simp] theorem State.log_history (e : Event) : (s.log e).history = s.history ++ [e] := rfl

@[simp] theorem State.addDiag_params (d : Diag) : (s.addDiag d).params = s.params := rfl
@[simp] theorem State.addDiag_life (d : Diag) : (s.addDiag d).life = s.life.onHandle (fun h => { h with diag := h.diag ++ [d] }) := rfl
@[simp] theorem State.addDiag_cur (d : Diag) : (s.addDiag d).cur = s.cur := rfl
@[simp] theorem State.addDiag_bstep (d : Diag) : (s.addDiag d).bstep = s.bstep := rfl
@[simp] theorem State.addDiag_phase (d : Diag) : (s.addDiag d).phase = s.phase := rfl
@[simp] theorem State.addDiag_active (d : Diag) : (s.addDiag d).active = s.active := rfl
@[simp] theorem State.addDiag_txn (d : Diag) : (s.addDiag d).txn = s.txn := rfl
@[simp] theorem State.addDiag_waiting (d : Diag) : (s.addDiag d).waiting = s.waiting := rfl
@[simp] theorem State.addDiag_csr (d : Diag) : (s.addDiag d).csr = s.csr := rfl
@[simp] theorem State.addDiag_port (d : Diag) : (s.addDiag d).port = s.port := rfl
@[simp] theorem State.addDiag_bus (d : Diag) : (s.addDiag d).bus = s.bus := rfl
@[simp] theorem State.addDiag_bindings (d : Diag) : (s.addDiag d).bindings = s.bindings := rfl
@[simp] theorem State.addDiag_caps (d : Diag) : (s.addDiag d).caps = s.caps := rfl
@[simp] theorem State.addDiag_grants (d : Diag) : (s.addDiag d).grants = s.grants := rfl
@[simp] theorem State.addDiag_draws (d : Diag) : (s.addDiag d).draws = s.draws := rfl
@[simp] theorem State.addDiag_caller (d : Diag) : (s.addDiag d).caller = s.caller := rfl
@[simp] theorem State.addDiag_history (d : Diag) : (s.addDiag d).history = s.history ++ [.diag d] := rfl

@[simp] theorem State.respond_params (r : Result) : (s.respond r).params = s.params := rfl
@[simp] theorem State.respond_life (r : Result) : (s.respond r).life = s.life := rfl
@[simp] theorem State.respond_cur (r : Result) : (s.respond r).cur = s.cur := rfl
@[simp] theorem State.respond_bstep (r : Result) : (s.respond r).bstep = s.bstep := rfl
@[simp] theorem State.respond_phase (r : Result) : (s.respond r).phase = s.phase := rfl
@[simp] theorem State.respond_active (r : Result) : (s.respond r).active = s.active := rfl
@[simp] theorem State.respond_txn (r : Result) : (s.respond r).txn = s.txn := rfl
@[simp] theorem State.respond_waiting (r : Result) : (s.respond r).waiting = s.waiting := rfl
@[simp] theorem State.respond_csr (r : Result) : (s.respond r).csr = s.csr := rfl
@[simp] theorem State.respond_port (r : Result) : (s.respond r).port = s.port := rfl
@[simp] theorem State.respond_bus (r : Result) : (s.respond r).bus = s.bus := rfl
@[simp] theorem State.respond_bindings (r : Result) : (s.respond r).bindings = s.bindings := rfl
@[simp] theorem State.respond_caps (r : Result) : (s.respond r).caps = s.caps := rfl
@[simp] theorem State.respond_grants (r : Result) : (s.respond r).grants = s.grants := rfl
@[simp] theorem State.respond_draws (r : Result) : (s.respond r).draws = s.draws := rfl
@[simp] theorem State.respond_caller (r : Result) : (s.respond r).caller = s.caller := rfl
@[simp] theorem State.respond_history (r : Result) : (s.respond r).history = s.history ++ [.response s.caller r] := rfl

@[simp] theorem State.acquire_params (i : Instr) : (s.acquire i).params = s.params := rfl
@[simp] theorem State.acquire_life (i : Instr) : (s.acquire i).life = s.life.onHandle (fun h => { h with guard := .held s.caller }) := rfl
@[simp] theorem State.acquire_cur (i : Instr) : (s.acquire i).cur = none := rfl
@[simp] theorem State.acquire_bstep (i : Instr) : (s.acquire i).bstep = s.bstep := rfl
@[simp] theorem State.acquire_phase (i : Instr) : (s.acquire i).phase = s.phase := rfl
@[simp] theorem State.acquire_active (i : Instr) : (s.acquire i).active = some ⟨s.caller, i⟩ := rfl
@[simp] theorem State.acquire_txn (i : Instr) : (s.acquire i).txn = s.txn := rfl
@[simp] theorem State.acquire_waiting (i : Instr) : (s.acquire i).waiting = s.waiting := rfl
@[simp] theorem State.acquire_csr (i : Instr) : (s.acquire i).csr = s.csr := rfl
@[simp] theorem State.acquire_port (i : Instr) : (s.acquire i).port = s.port := rfl
@[simp] theorem State.acquire_bus (i : Instr) : (s.acquire i).bus = s.bus := rfl
@[simp] theorem State.acquire_bindings (i : Instr) : (s.acquire i).bindings = s.bindings := rfl
@[simp] theorem State.acquire_caps (i : Instr) : (s.acquire i).caps = s.caps := rfl
@[simp] theorem State.acquire_grants (i : Instr) : (s.acquire i).grants = s.grants := rfl
@[simp] theorem State.acquire_draws (i : Instr) : (s.acquire i).draws = s.draws := rfl
@[simp] theorem State.acquire_caller (i : Instr) : (s.acquire i).caller = s.caller := rfl
@[simp] theorem State.acquire_history (i : Instr) : (s.acquire i).history = s.history := rfl

@[simp] theorem State.release_params : (s.release).params = s.params := rfl
@[simp] theorem State.release_life : (s.release).life = s.life.onHandle (fun h => { h with guard := .free }) := rfl
@[simp] theorem State.release_cur : (s.release).cur = none := rfl
@[simp] theorem State.release_bstep : (s.release).bstep = s.bstep := rfl
@[simp] theorem State.release_phase : (s.release).phase = .idle := rfl
@[simp] theorem State.release_active : (s.release).active = none := rfl
@[simp] theorem State.release_txn : (s.release).txn = none := rfl
@[simp] theorem State.release_waiting : (s.release).waiting = s.waiting := rfl
@[simp] theorem State.release_csr : (s.release).csr = s.csr := rfl
@[simp] theorem State.release_port : (s.release).port = s.port := rfl
@[simp] theorem State.release_bus : (s.release).bus = s.bus := rfl
@[simp] theorem State.release_bindings : (s.release).bindings = s.bindings := rfl
@[simp] theorem State.release_caps : (s.release).caps = s.caps := rfl
@[simp] theorem State.release_grants : (s.release).grants = s.grants := rfl
@[simp] theorem State.release_draws : (s.release).draws = s.draws := rfl
@[simp] theorem State.release_caller : (s.release).caller = s.caller := rfl
@[simp] theorem State.release_history : (s.release).history = s.history := rfl

@[simp] theorem State.finish_params (r : Result) : (s.finish r).params = s.params := rfl
@[simp] theorem State.finish_life (r : Result) : (s.finish r).life = s.life.onHandle (fun h => { h with guard := .free }) := rfl
@[simp] theorem State.finish_cur (r : Result) : (s.finish r).cur = none := rfl
@[simp] theorem State.finish_bstep (r : Result) : (s.finish r).bstep = s.bstep := rfl
@[simp] theorem State.finish_phase (r : Result) : (s.finish r).phase = .idle := rfl
@[simp] theorem State.finish_active (r : Result) : (s.finish r).active = none := rfl
@[simp] theorem State.finish_txn (r : Result) : (s.finish r).txn = none := rfl
@[simp] theorem State.finish_waiting (r : Result) : (s.finish r).waiting = s.waiting := rfl
@[simp] theorem State.finish_csr (r : Result) : (s.finish r).csr = s.csr := rfl
@[simp] theorem State.finish_port (r : Result) : (s.finish r).port = s.port := rfl
@[simp] theorem State.finish_bus (r : Result) : (s.finish r).bus = s.bus := rfl
@[simp] theorem State.finish_bindings (r : Result) : (s.finish r).bindings = s.bindings := rfl
@[simp] theorem State.finish_caps (r : Result) : (s.finish r).caps = s.caps := rfl
@[simp] theorem State.finish_grants (r : Result) : (s.finish r).grants = s.grants := rfl
@[simp] theorem State.finish_draws (r : Result) : (s.finish r).draws = s.draws := rfl
@[simp] theorem State.finish_caller (r : Result) : (s.finish r).caller = s.caller := rfl
@[simp] theorem State.finish_history (r : Result) : (s.finish r).history = s.history ++ [.response s.caller r] := rfl

@[simp] theorem State.enqueue_params (i : Instr) : (s.enqueue i).params = s.params := rfl
@[simp] theorem State.enqueue_life (i : Instr) : (s.enqueue i).life = s.life := rfl
@[simp] theorem State.enqueue_cur (i : Instr) : (s.enqueue i).cur = s.cur := rfl
@[simp] theorem State.enqueue_bstep (i : Instr) : (s.enqueue i).bstep = s.bstep := rfl
@[simp] theorem State.enqueue_phase (i : Instr) : (s.enqueue i).phase = s.phase := rfl
@[simp] theorem State.enqueue_active (i : Instr) : (s.enqueue i).active = s.active := rfl
@[simp] theorem State.enqueue_txn (i : Instr) : (s.enqueue i).txn = s.txn := rfl
@[simp] theorem State.enqueue_waiting (i : Instr) : (s.enqueue i).waiting = s.waiting ++ [⟨s.caller, i⟩] := rfl
@[simp] theorem State.enqueue_csr (i : Instr) : (s.enqueue i).csr = s.csr := rfl
@[simp] theorem State.enqueue_port (i : Instr) : (s.enqueue i).port = s.port := rfl
@[simp] theorem State.enqueue_bus (i : Instr) : (s.enqueue i).bus = s.bus := rfl
@[simp] theorem State.enqueue_bindings (i : Instr) : (s.enqueue i).bindings = s.bindings := rfl
@[simp] theorem State.enqueue_caps (i : Instr) : (s.enqueue i).caps = s.caps := rfl
@[simp] theorem State.enqueue_grants (i : Instr) : (s.enqueue i).grants = s.grants := rfl
@[simp] theorem State.enqueue_draws (i : Instr) : (s.enqueue i).draws = s.draws := rfl
@[simp] theorem State.enqueue_caller (i : Instr) : (s.enqueue i).caller = s.caller := rfl
@[simp] theorem State.enqueue_history (i : Instr) : (s.enqueue i).history = s.history := rfl

@[simp] theorem State.issue_params (t : Txn) : (s.issue t).params = s.params := rfl
@[simp] theorem State.issue_life (t : Txn) : (s.issue t).life = s.life := rfl
@[simp] theorem State.issue_cur (t : Txn) : (s.issue t).cur = s.cur := rfl
@[simp] theorem State.issue_bstep (t : Txn) : (s.issue t).bstep = s.bstep := rfl
@[simp] theorem State.issue_phase (t : Txn) : (s.issue t).phase = txnPhase t := rfl
@[simp] theorem State.issue_active (t : Txn) : (s.issue t).active = s.active := rfl
@[simp] theorem State.issue_txn (t : Txn) : (s.issue t).txn = some t := rfl
@[simp] theorem State.issue_waiting (t : Txn) : (s.issue t).waiting = s.waiting := rfl
@[simp] theorem State.issue_csr (t : Txn) : (s.issue t).csr = s.csr := rfl
@[simp] theorem State.issue_port (t : Txn) : (s.issue t).port = s.port := rfl
@[simp] theorem State.issue_bus (t : Txn) : (s.issue t).bus = s.bus := rfl
@[simp] theorem State.issue_bindings (t : Txn) : (s.issue t).bindings = s.bindings := rfl
@[simp] theorem State.issue_caps (t : Txn) : (s.issue t).caps = s.caps := rfl
@[simp] theorem State.issue_grants (t : Txn) : (s.issue t).grants = s.grants := rfl
@[simp] theorem State.issue_draws (t : Txn) : (s.issue t).draws = s.draws := rfl
@[simp] theorem State.issue_caller (t : Txn) : (s.issue t).caller = s.caller := rfl
@[simp] theorem State.issue_history (t : Txn) : (s.issue t).history = s.history := rfl

@[simp] theorem State.answered_params : (s.answered).params = s.params := rfl
@[simp] theorem State.answered_life : (s.answered).life = s.life := rfl
@[simp] theorem State.answered_cur : (s.answered).cur = s.cur := rfl
@[simp] theorem State.answered_bstep : (s.answered).bstep = s.bstep := rfl
@[simp] theorem State.answered_phase : (s.answered).phase = s.phase := rfl
@[simp] theorem State.answered_active : (s.answered).active = s.active := rfl
@[simp] theorem State.answered_txn : (s.answered).txn = none := rfl
@[simp] theorem State.answered_waiting : (s.answered).waiting = s.waiting := rfl
@[simp] theorem State.answered_csr : (s.answered).csr = s.csr := rfl
@[simp] theorem State.answered_port : (s.answered).port = s.port := rfl
@[simp] theorem State.answered_bus : (s.answered).bus = s.bus := rfl
@[simp] theorem State.answered_bindings : (s.answered).bindings = s.bindings := rfl
@[simp] theorem State.answered_caps : (s.answered).caps = s.caps := rfl
@[simp] theorem State.answered_grants : (s.answered).grants = s.grants := rfl
@[simp] theorem State.answered_draws : (s.answered).draws = s.draws := rfl
@[simp] theorem State.answered_caller : (s.answered).caller = s.caller := rfl
@[simp] theorem State.answered_history : (s.answered).history = s.history := rfl

@[simp] theorem State.landWrite_params (a b : Byte) (fx : List (Reg × Byte)) : (s.landWrite a b fx).params = s.params := rfl
@[simp] theorem State.landWrite_life (a b : Byte) (fx : List (Reg × Byte)) : (s.landWrite a b fx).life = s.life := rfl
@[simp] theorem State.landWrite_cur (a b : Byte) (fx : List (Reg × Byte)) : (s.landWrite a b fx).cur = s.cur := rfl
@[simp] theorem State.landWrite_bstep (a b : Byte) (fx : List (Reg × Byte)) : (s.landWrite a b fx).bstep = s.bstep := rfl
@[simp] theorem State.landWrite_phase (a b : Byte) (fx : List (Reg × Byte)) : (s.landWrite a b fx).phase = s.phase := rfl
@[simp] theorem State.landWrite_active (a b : Byte) (fx : List (Reg × Byte)) : (s.landWrite a b fx).active = s.active := rfl
@[simp] theorem State.landWrite_txn (a b : Byte) (fx : List (Reg × Byte)) : (s.landWrite a b fx).txn = s.txn := rfl
@[simp] theorem State.landWrite_waiting (a b : Byte) (fx : List (Reg × Byte)) : (s.landWrite a b fx).waiting = s.waiting := rfl
@[simp] theorem State.landWrite_csr (a b : Byte) (fx : List (Reg × Byte)) : (s.landWrite a b fx).csr = landIn s.params s.csr a b fx := rfl
@[simp] theorem State.landWrite_port (a b : Byte) (fx : List (Reg × Byte)) : (s.landWrite a b fx).port = s.port := rfl
@[simp] theorem State.landWrite_bus (a b : Byte) (fx : List (Reg × Byte)) : (s.landWrite a b fx).bus = s.bus := rfl
@[simp] theorem State.landWrite_bindings (a b : Byte) (fx : List (Reg × Byte)) : (s.landWrite a b fx).bindings = s.bindings := rfl
@[simp] theorem State.landWrite_caps (a b : Byte) (fx : List (Reg × Byte)) : (s.landWrite a b fx).caps = s.caps := rfl
@[simp] theorem State.landWrite_grants (a b : Byte) (fx : List (Reg × Byte)) : (s.landWrite a b fx).grants = s.grants := rfl
@[simp] theorem State.landWrite_draws (a b : Byte) (fx : List (Reg × Byte)) : (s.landWrite a b fx).draws = s.draws := rfl
@[simp] theorem State.landWrite_caller (a b : Byte) (fx : List (Reg × Byte)) : (s.landWrite a b fx).caller = s.caller := rfl
@[simp] theorem State.landWrite_history (a b : Byte) (fx : List (Reg × Byte)) : (s.landWrite a b fx).history = s.history := rfl

@[simp] theorem State.failWrite_params (a left : Byte) : (s.failWrite a left).params = s.params := rfl
@[simp] theorem State.failWrite_life (a left : Byte) : (s.failWrite a left).life = s.life := rfl
@[simp] theorem State.failWrite_cur (a left : Byte) : (s.failWrite a left).cur = s.cur := rfl
@[simp] theorem State.failWrite_bstep (a left : Byte) : (s.failWrite a left).bstep = s.bstep := rfl
@[simp] theorem State.failWrite_phase (a left : Byte) : (s.failWrite a left).phase = s.phase := rfl
@[simp] theorem State.failWrite_active (a left : Byte) : (s.failWrite a left).active = s.active := rfl
@[simp] theorem State.failWrite_txn (a left : Byte) : (s.failWrite a left).txn = s.txn := rfl
@[simp] theorem State.failWrite_waiting (a left : Byte) : (s.failWrite a left).waiting = s.waiting := rfl
@[simp] theorem State.failWrite_csr (a left : Byte) : (s.failWrite a left).csr = failIn s.params s.csr a left := rfl
@[simp] theorem State.failWrite_port (a left : Byte) : (s.failWrite a left).port = s.port := rfl
@[simp] theorem State.failWrite_bus (a left : Byte) : (s.failWrite a left).bus = s.bus := rfl
@[simp] theorem State.failWrite_bindings (a left : Byte) : (s.failWrite a left).bindings = s.bindings := rfl
@[simp] theorem State.failWrite_caps (a left : Byte) : (s.failWrite a left).caps = s.caps := rfl
@[simp] theorem State.failWrite_grants (a left : Byte) : (s.failWrite a left).grants = s.grants := rfl
@[simp] theorem State.failWrite_draws (a left : Byte) : (s.failWrite a left).draws = s.draws := rfl
@[simp] theorem State.failWrite_caller (a left : Byte) : (s.failWrite a left).caller = s.caller := rfl
@[simp] theorem State.failWrite_history (a left : Byte) : (s.failWrite a left).history = s.history := rfl

@[simp] theorem State.latch_params (b : Byte) : (s.latch b).params = s.params := rfl
@[simp] theorem State.latch_life (b : Byte) : (s.latch b).life = s.life := rfl
@[simp] theorem State.latch_cur (b : Byte) : (s.latch b).cur = some b := rfl
@[simp] theorem State.latch_bstep (b : Byte) : (s.latch b).bstep = s.bstep := rfl
@[simp] theorem State.latch_phase (b : Byte) : (s.latch b).phase = .modify := rfl
@[simp] theorem State.latch_active (b : Byte) : (s.latch b).active = s.active := rfl
@[simp] theorem State.latch_txn (b : Byte) : (s.latch b).txn = s.txn := rfl
@[simp] theorem State.latch_waiting (b : Byte) : (s.latch b).waiting = s.waiting := rfl
@[simp] theorem State.latch_csr (b : Byte) : (s.latch b).csr = s.csr := rfl
@[simp] theorem State.latch_port (b : Byte) : (s.latch b).port = s.port := rfl
@[simp] theorem State.latch_bus (b : Byte) : (s.latch b).bus = s.bus := rfl
@[simp] theorem State.latch_bindings (b : Byte) : (s.latch b).bindings = s.bindings := rfl
@[simp] theorem State.latch_caps (b : Byte) : (s.latch b).caps = s.caps := rfl
@[simp] theorem State.latch_grants (b : Byte) : (s.latch b).grants = s.grants := rfl
@[simp] theorem State.latch_draws (b : Byte) : (s.latch b).draws = s.draws := rfl
@[simp] theorem State.latch_caller (b : Byte) : (s.latch b).caller = s.caller := rfl
@[simp] theorem State.latch_history (b : Byte) : (s.latch b).history = s.history := rfl

@[simp] theorem State.beginAttach_params : (s.beginAttach).params = s.params := rfl
@[simp] theorem State.beginAttach_life : (s.beginAttach).life = .bringup (Handle.fresh s.nextBinding) := rfl
@[simp] theorem State.beginAttach_cur : (s.beginAttach).cur = s.cur := rfl
@[simp] theorem State.beginAttach_bstep : (s.beginAttach).bstep = some .s1Cap := rfl
@[simp] theorem State.beginAttach_phase : (s.beginAttach).phase = .check := rfl
@[simp] theorem State.beginAttach_active : (s.beginAttach).active = some ⟨s.caller, .attach⟩ := rfl
@[simp] theorem State.beginAttach_txn : (s.beginAttach).txn = s.txn := rfl
@[simp] theorem State.beginAttach_waiting : (s.beginAttach).waiting = s.waiting := rfl
@[simp] theorem State.beginAttach_csr : (s.beginAttach).csr = s.csr := rfl
@[simp] theorem State.beginAttach_port : (s.beginAttach).port = s.port := rfl
@[simp] theorem State.beginAttach_bus : (s.beginAttach).bus = s.bus := rfl
@[simp] theorem State.beginAttach_bindings : (s.beginAttach).bindings = s.bindings.tail := rfl
@[simp] theorem State.beginAttach_caps : (s.beginAttach).caps = s.caps := rfl
@[simp] theorem State.beginAttach_grants : (s.beginAttach).grants = s.grants := rfl
@[simp] theorem State.beginAttach_draws : (s.beginAttach).draws = if s.bindings.isEmpty then s.draws + 1 else s.draws := rfl
@[simp] theorem State.beginAttach_caller : (s.beginAttach).caller = s.caller := rfl
@[simp] theorem State.beginAttach_history : (s.beginAttach).history = s.history := rfl

@[simp] theorem State.dropSilence_params : (s.dropSilence).params = s.params := by
  unfold State.dropSilence
  split <;> rfl

@[simp] theorem State.dropSilence_life : (s.dropSilence).life = s.life := by
  unfold State.dropSilence
  split <;> rfl

@[simp] theorem State.dropSilence_cur : (s.dropSilence).cur = s.cur := by
  unfold State.dropSilence
  split <;> rfl

@[simp] theorem State.dropSilence_bstep : (s.dropSilence).bstep = s.bstep := by
  unfold State.dropSilence
  split <;> rfl

@[simp] theorem State.dropSilence_phase : (s.dropSilence).phase = s.phase := by
  unfold State.dropSilence
  split <;> rfl

@[simp] theorem State.dropSilence_active : (s.dropSilence).active = s.active := by
  unfold State.dropSilence
  split <;> rfl

@[simp] theorem State.dropSilence_txn : (s.dropSilence).txn = s.txn := by
  unfold State.dropSilence
  split <;> rfl

@[simp] theorem State.dropSilence_waiting : (s.dropSilence).waiting = s.waiting := by
  unfold State.dropSilence
  split <;> rfl

@[simp] theorem State.dropSilence_csr : (s.dropSilence).csr = s.csr := by
  unfold State.dropSilence
  split <;> rfl

@[simp] theorem State.dropSilence_port : (s.dropSilence).port = s.port := by
  unfold State.dropSilence
  split <;> rfl

@[simp] theorem State.dropSilence_bindings : (s.dropSilence).bindings = s.bindings := by
  unfold State.dropSilence
  split <;> rfl

@[simp] theorem State.dropSilence_grants : (s.dropSilence).grants = s.grants := by
  unfold State.dropSilence
  split <;> rfl

@[simp] theorem State.dropSilence_caller : (s.dropSilence).caller = s.caller := by
  unfold State.dropSilence
  split <;> rfl

@[simp] theorem State.dropSilence_history : (s.dropSilence).history = s.history := by
  unfold State.dropSilence
  split <;> rfl

@[simp] theorem onHandle_absent (f : Handle → Handle) : Life.absent.onHandle f = .absent := rfl

@[simp] theorem onHandle_bringup (h : Handle) (f : Handle → Handle) :
    (Life.bringup h).onHandle f = .bringup (f h) := rfl

@[simp] theorem onHandle_attached (h : Handle) (f : Handle → Handle) :
    (Life.attached h).onHandle f = .attached (f h) := rfl

@[simp] theorem onHandle_detached (f : Handle → Handle) : Life.detached.onHandle f = .detached := rfl

@[simp] theorem onHandle_isBringup (l : Life) (f : Handle → Handle) :
    (l.onHandle f).isBringup = l.isBringup := by
  cases l <;> rfl

@[simp] theorem handle_onHandle (l : Life) (f : Handle → Handle) :
    (l.onHandle f).handle? = l.handle?.map f := by
  cases l <;> rfl

@[simp] theorem onHandle_onHandle (l : Life) (f g : Handle → Handle) :
    (l.onHandle f).onHandle g = l.onHandle (fun h => g (f h)) := by
  cases l <;> rfl

end Sys2Proof.Machine
end

