-- ==== Sys2Proof/Laws/Ops.lean ====
section
/-! SUPPORT. One lemma per shared operation that says everything it can do: register stores change the
register space only; a transaction has three outcomes; an operation of one read, one write or a
read-modify-write ends in one of the ways spec/40_transport.md and 41_bitfield.md list; the capability check has
three outcomes. -/

namespace Sys2Proof.Machine

variable (s : State)

/-- The stored byte of a register after its storage bits are set (R90, R98). -/
theorem storedIn_storeIn_same (p : Params) (m : List Host.Cell) (r : Reg) (b : Byte) :
    storedIn p (storeIn p m r b) r &&& storageMask p r = b &&& storageMask p r := by
  unfold storeIn
  split
  · rename_i h
    simp [h]
  · simp only [storedIn, Memory.read_write_same]
    rw [BitVec.and_assoc, BitVec.and_self]

/-- The byte listed at another address is untouched by a store (R98). -/
theorem read_storeIn_other (p : Params) (m : List Host.Cell) (r : Reg) (b : Byte) (x : Nat)
    (hx : x ≠ (addrOf p r).toNat) : Memory.read (storeIn p m r b) x = Memory.read m x := by
  unfold storeIn
  split
  · rfl
  · exact Memory.read_write_other _ _ _ _ hx

/-- A store keeps the canonical form. -/
theorem wf_storeIn (p : Params) (m : List Host.Cell) (r : Reg) (b : Byte) (h : Memory.wf m = true) :
    Memory.wf (storeIn p m r b) = true := by
  unfold storeIn
  split
  · exact h
  · exact Memory.wf_write _ _ _ h

/-- SOFT_RST_EFFECT keeps the canonical form. -/
theorem wf_effectIn (p : Params) (m : List Host.Cell) (fx : List (Reg × Byte)) (h : Memory.wf m = true) :
    Memory.wf (effectIn p m fx) = true := by
  induction fx generalizing m with
  | nil => exact h
  | cons c rest ih => exact ih _ (wf_storeIn p m c.1 c.2 h)

/-- A successful write keeps the canonical form. -/
theorem wf_landIn (p : Params) (m : List Host.Cell) (a b : Byte) (fx : List (Reg × Byte))
    (h : Memory.wf m = true) : Memory.wf (landIn p m a b fx) = true := by
  unfold landIn
  split
  · split
    · exact wf_effectIn _ _ _ (wf_storeIn _ _ _ _ h)
    · exact wf_storeIn _ _ _ _ h
  · exact h

/-- A failed write keeps the canonical form. -/
theorem wf_failIn (p : Params) (m : List Host.Cell) (a left : Byte) (h : Memory.wf m = true) :
    Memory.wf (failIn p m a left) = true := by
  unfold failIn
  split
  · exact wf_storeIn _ _ _ _ h
  · exact h

/-- A register found at an address has that address (R80). -/
theorem addrOf_regAt (p : Params) (a : Byte) (r : Reg) (h : regAt p a = some r) : addrOf p r = a := by
  have := List.find?_some h
  simpa using this

/-- The state after a transaction `t` has been answered and recorded as `e`, the register space being `m`. -/
def afterTxn (s : State) (t : Txn) (e : Event) (m : List Host.Cell) : State :=
  { s.dropAnswer with txn := none, phase := txnPhase t, csr := m, history := s.history ++ [e] }

/-- `xfer_read` where the transport is silent: the transaction stays in flight (R101, R160). -/
theorem State.xferRead_late (a : Byte) (h : s.nextAnswer = .late) :
    s.xferRead a = (.unanswered, (s.issue (.rd a)).dropAnswer) := by
  simp [State.xferRead, State.busRead, afterRead, h]

/-- `xfer_read` that fails: one diagnostic event, no register changed (R99, R160). -/
theorem State.xferRead_err (a left : Byte) (h : s.nextAnswer = .err left) :
    s.xferRead a = (.err, (afterTxn s (.rd a) (.read a none) s.csr).addDiag ⟨.rd, a⟩) := by
  simp only [State.xferRead, State.busRead, afterRead, h]
  rfl

/-- `xfer_read` that succeeds: the byte read, no register changed (R86, R97, R160). -/
theorem State.xferRead_ok (a hw : Byte) (fx : List (Reg × Byte)) (h : s.nextAnswer = .ok hw fx) :
    s.xferRead a
      = (.ok (s.readByte a hw), afterTxn s (.rd a) (.read a (some (s.readByte a hw))) s.csr) := by
  simp only [State.xferRead, State.busRead, afterRead, h]
  rfl

/-- `xfer_write` where the transport is silent (R101, R161). -/
theorem State.xferWrite_late (a b : Byte) (h : s.nextAnswer = .late) :
    s.xferWrite a b = (.unanswered, (s.issue (.wr a b)).dropAnswer) := by
  simp [State.xferWrite, State.busWrite, afterWrite, h]

/-- `xfer_write` that fails: one diagnostic event, any byte in the register's storage bits (R99, R161). -/
theorem State.xferWrite_err (a b left : Byte) (h : s.nextAnswer = .err left) :
    s.xferWrite a b
      = (.err, (afterTxn s (.wr a b) (.write a b false) (failIn s.params s.csr a left)).addDiag ⟨.wr, a⟩) := by
  simp only [State.xferWrite, State.busWrite, afterWrite, h]
  rfl

/-- `xfer_write` that succeeds: the storage bits are set (R98, R161). -/
theorem State.xferWrite_ok (a b hw : Byte) (fx : List (Reg × Byte)) (h : s.nextAnswer = .ok hw fx) :
    s.xferWrite a b
      = (.ok, afterTxn s (.wr a b) (.write a b true) (landIn s.params s.csr a b fx)) := by
  simp only [State.xferWrite, State.busWrite, afterWrite, h]
  rfl

/-- Everything an operation of one read can do (R162, R101). -/
theorem State.readOp_cases (a : Byte) (f : Byte → Result) :
    (s.nextAnswer = .late ∧ s.readOp a f = (s.issue (.rd a)).dropAnswer)
    ∨ (∃ left, s.nextAnswer = .err left ∧
        s.readOp a f = ((afterTxn s (.rd a) (.read a none) s.csr).addDiag ⟨.rd, a⟩).finish
          (.fault .transportFault))
    ∨ (∃ hw fx, s.nextAnswer = .ok hw fx ∧
        s.readOp a f = (afterTxn s (.rd a) (.read a (some (s.readByte a hw))) s.csr).finish
          (f (s.readByte a hw))) := by
  unfold State.readOp
  cases h : s.nextAnswer with
  | late => exact .inl ⟨rfl, by rw [State.xferRead_late s a h]; rfl⟩
  | err left => exact .inr (.inl ⟨left, rfl, by rw [State.xferRead_err s a left h]; rfl⟩)
  | ok hw fx => exact .inr (.inr ⟨hw, fx, rfl, by rw [State.xferRead_ok s a hw fx h]; rfl⟩)

/-- Everything an operation of one write can do (R163, R101). -/
theorem State.writeOp_cases (a b : Byte) :
    (s.nextAnswer = .late ∧ s.writeOp a b = (s.issue (.wr a b)).dropAnswer)
    ∨ (∃ left, s.nextAnswer = .err left ∧
        s.writeOp a b = ((afterTxn s (.wr a b) (.write a b false) (failIn s.params s.csr a left)).addDiag
          ⟨.wr, a⟩).finish (.fault .transportFault))
    ∨ (∃ hw fx, s.nextAnswer = .ok hw fx ∧
        s.writeOp a b = (afterTxn s (.wr a b) (.write a b true) (landIn s.params s.csr a b fx)).finish .ok) := by
  unfold State.writeOp
  cases h : s.nextAnswer with
  | late => exact .inl ⟨rfl, by rw [State.xferWrite_late s a b h]; rfl⟩
  | err left => exact .inr (.inl ⟨left, rfl, by rw [State.xferWrite_err s a b left h]; rfl⟩)
  | ok hw fx => exact .inr (.inr ⟨hw, fx, rfl, by rw [State.xferWrite_ok s a b hw fx h]; rfl⟩)

/-- Everything a read-modify-write can do while its latch is empty: wait for the read, end on its failure, or
go on to the write of the merged byte (R183). -/
theorem State.rmwOp_cases (a : Byte) (i : BitIdx) (v : Bool) (hc : s.cur = none) :
    (s.nextAnswer = .late ∧ s.rmwOp a i v = (s.issue (.rd a)).dropAnswer)
    ∨ (∃ left, s.nextAnswer = .err left ∧
        s.rmwOp a i v = ((afterTxn s (.rd a) (.read a none) s.csr).addDiag ⟨.rd, a⟩).finish
          (.fault .transportFault))
    ∨ (∃ hw fx, s.nextAnswer = .ok hw fx ∧
        s.rmwOp a i v = ((afterTxn s (.rd a) (.read a (some (s.readByte a hw))) s.csr).latch
          (s.readByte a hw)).writeOp a (mergeBit (s.readByte a hw) i v)) := by
  unfold State.rmwOp
  rw [hc]
  cases h : s.nextAnswer with
  | late => exact .inl ⟨rfl, by rw [State.xferRead_late s a h]; rfl⟩
  | err left => exact .inr (.inl ⟨left, rfl, by rw [State.xferRead_err s a left h]; rfl⟩)
  | ok hw fx => exact .inr (.inr ⟨hw, fx, rfl, by rw [State.xferRead_ok s a hw fx h]; rfl⟩)

/-- A read-modify-write whose latch holds the byte read goes on with its write (R183). -/
theorem State.rmwOp_latched (a : Byte) (i : BitIdx) (v : Bool) (c : Byte) (hc : s.cur = some c) :
    s.rmwOp a i v = s.writeOp a (mergeBit c i v) := by
  unfold State.rmwOp
  rw [hc]

/-- In ATTACHED the outstanding call is a transaction (R167). -/
theorem State.awaitsCap_attached (h : Handle) (hl : s.life = .attached h) : s.awaitsCap = false := by
  simp [State.awaitsCap, hl, Life.isBringup]

/-- In ATTACHED the transport is silent when its next answer is late (R101). -/
theorem State.silent_attached (h : Handle) (hl : s.life = .attached h) : s.silent = isLate s.nextAnswer := by
  simp [State.silent, s.awaitsCap_attached h hl]

/-- In ATTACHED a silence uses up one answer of the bus (R101). -/
theorem State.dropSilence_attached (h : Handle) (hl : s.life = .attached h) :
    s.dropSilence = s.dropAnswer := by
  simp [State.dropSilence, s.awaitsCap_attached h hl]

/-- Everything the capability check can do (R20, R211). -/
theorem askCap_cases :
    (s.nextCap = .late ∧ askCap s = s.dropCap)
    ∨ (s.nextCap = .yes ∧ askCap s = runBringup bringupOrder (s.dropCap.acquire .attach))
    ∨ (s.nextCap = .no ∧ askCap s =
        { s.dropCap with life := .absent, bstep := none, active := none, phase := .idle }.respond
          (.fault .capabilityUnavailable)) := by
  unfold askCap
  cases s.nextCap <;> simp

/-- Running under the guard: at once where it is free (R23). -/
theorem State.underGuard_free (h : Handle) (i : Instr) (body : State → State) (hg : h.guard = .free) :
    s.underGuard h i body = body (s.acquire i) := by
  simp [State.underGuard, hg]

/-- Running under the guard: after waiting where it is held (R23). -/
theorem State.underGuard_held (h : Handle) (i : Instr) (body : State → State) (q : Tag)
    (hg : h.guard = .held q) : s.underGuard h i body = s.enqueue i := by
  simp [State.underGuard, hg]

/-- Acceptance in ATTACHED (R24). -/
theorem State.accepted_attached (h : Handle) (k : Handle → State) (hl : s.life = .attached h) :
    s.accepted k = .next (k h) := by
  simp [State.accepted, hl]

/-- An operation that answers a next state was accepted: the handle was attached (R24). -/
theorem State.accepted_next (k : Handle → State) (t : State) (ht : s.accepted k = .next t) :
    ∃ h, s.life = .attached h ∧ t = k h := by
  unfold State.accepted at ht
  split at ht
  · rename_i h hl
    injection ht with ht
    exact ⟨h, hl, ht.symm⟩
  all_goals cases ht

end Sys2Proof.Machine
end

