-- ==== Sys2Proof/Laws/PerInstr.lean ====
section
/-! SUPPORT. One statement for every instruction, about its encoding. -/

namespace Sys2Proof.Laws.EncodedWord

/-- R120 to R122: the encoded word carries the table's `op`, and its reserved field `z` is zero. -/
def Statement (i : Instr) : Prop :=
  (Fields.ofWord (encode i)).op = (Fields.ofWord i.rowMatch).op ∧ (Fields.ofWord (encode i)).z = 0#3

theorem rdreg (a : Byte) : Statement (.rdreg a) := by
  simp only [Statement, encode, Fields.ofWord_toWord]
  have h : 1#4 = (Fields.ofWord 0x10000000#32).op := by decide
  exact ⟨h, rfl⟩

theorem wrreg (a b : Byte) : Statement (.wrreg a b) := by
  simp only [Statement, encode, Fields.ofWord_toWord]
  have h : 2#4 = (Fields.ofWord 0x20000000#32).op := by decide
  exact ⟨h, rfl⟩

theorem getbit (d : Descriptor) : Statement (.getbit d) := by
  simp only [Statement, encode, Fields.ofWord_toWord]
  have h : 3#4 = (Fields.ofWord 0x30010000#32).op := by decide
  exact ⟨h, rfl⟩

theorem setbit (d : Descriptor) (v : Value) : Statement (.setbit d v) := by
  simp only [Statement, encode, Fields.ofWord_toWord]
  have h : 4#4 = (Fields.ofWord 0x40010000#32).op := by decide
  exact ⟨h, rfl⟩

theorem getsig (g : Signal) : Statement (.getsig g) := by
  simp only [Statement, encode, Fields.ofWord_toWord]
  have h : 5#4 = (Fields.ofWord 0x50000000#32).op := by decide
  exact ⟨h, rfl⟩

theorem setsig (g : Signal) (v : Value) : Statement (.setsig g v) := by
  simp only [Statement, encode, Fields.ofWord_toWord]
  have h : 6#4 = (Fields.ofWord 0x60000000#32).op := by decide
  exact ⟨h, rfl⟩

theorem attach : Statement .attach := by
  simp only [Statement, encode, Fields.ofWord_toWord]
  have h : 8#4 = (Fields.ofWord 0x80000000#32).op := by decide
  exact ⟨h, rfl⟩

theorem detach : Statement .detach := by
  simp only [Statement, encode, Fields.ofWord_toWord]
  have h : 9#4 = (Fields.ofWord 0x90000000#32).op := by decide
  exact ⟨h, rfl⟩

end Sys2Proof.Laws.EncodedWord
end

