-- ==== Sys2Proof/Machine/Assembler.lean ====
section
/-! DEFINITION. The assembler text of an operation and the names the source gives the operations
(spec/30_encoding.md R126, R130, R131; 10_state.md R28). Nothing in the machine reads them. -/

namespace Sys2Proof.Machine

/-- The name of a register (R28). -/
def regName : Reg → String
  | .rev => "REG_REV"
  | .ledTest => "REG_LED_TEST"
  | .scratch => "REG_SCRATCH"
  | .softRst => "REG_SOFT_RST"
  | .rstLo => "REG_RST_LO"
  | .rstHi => "REG_RST_HI"
  | .lpmodeLo => "REG_LPMODE_LO"
  | .lpmodeHi => "REG_LPMODE_HI"
  | .modselLo => "REG_MODSEL_LO"
  | .modselHi => "REG_MODSEL_HI"
  | .hitless => "REG_HITLESS"
  | .prsLo => "REG_PRS_LO"
  | .prsHi => "REG_PRS_HI"
  | .intLo => "REG_INT_LO"
  | .intHi => "REG_INT_HI"
  | .sfp0 => "REG_SFP_0"
  | .sfp1 => "REG_SFP_1"
  | .day => "REG_DAY"
  | .month => "REG_MONTH"
  | .year => "REG_YEAR"

/-- The suffix of a module group's signal names (R50). -/
def groupName : ModGroup → String
  | .rst => "rst"
  | .lpmode => "lpmode"
  | .modsel => "modsel"
  | .prs => "prs"
  | .int => "int"

/-- The name of an identity signal (R126). -/
def identName : IdentField → String
  | .codeVer => "code_ver"
  | .codeType => "code_type"
  | .codeDay => "code_day"
  | .codeMonth => "code_month"
  | .codeYear => "code_year"

/-- The name of a catalogued signal (R126). -/
def sigName : Signal → String
  | .ident f => identName f
  | .ledTest k => "led_test" ++ toString k.val
  | .scratch => "scratch"
  | .softRst => "soft_rst"
  | .qsfp g k => "qsfp" ++ toString (moduleNumber k) ++ "_" ++ groupName g
  | .hitless => "hitless"
  | .sfpStat k => "sfp_stat" ++ toString k.val
  | .sfpTxEn => "sfp_tx_en"

/-- The flags operand of a descriptor: `r` or `rw` (R130). -/
def flagsText (d : Descriptor) : String := if d.writable then "rw" else "r"

/-- An address operand: the name of the register there, else a literal (R130). -/
def addrText (p : Params) (a : Byte) : String :=
  match regAt p a with
  | some r => regName r
  | none => toString a.toNat

/-- An operation in assembler text (R130). -/
def asmText (p : Params) : Instr → String
  | .rdreg a => "RDREG " ++ addrText p a
  | .wrreg a b => "WRREG " ++ addrText p a ++ ", " ++ toString b.toNat
  | .getbit d => "GETBIT " ++ addrText p d.reg ++ ", " ++ toString d.bit.toNat ++ ", " ++ flagsText d
  | .setbit d v =>
    "SETBIT " ++ addrText p d.reg ++ ", " ++ toString d.bit.toNat ++ ", " ++ flagsText d ++ ", "
      ++ toString v.toNat
  | .getsig g => "GETSIG " ++ sigName g
  | .setsig g v => "SETSIG " ++ sigName g ++ ", " ++ toString v.toNat
  | .attach => "ATTACH"
  | .detach => "DETACH"

/-- `read_register(h, A)` is `RDREG A` (R131). -/
def readRegister (a : Byte) : Instr := .rdreg a

/-- `write_register(h, A, b)` is `WRREG A, b` (R131). -/
def writeRegister (a b : Byte) : Instr := .wrreg a b

/-- `get_bit(h, d)` is `GETBIT d` (R131). -/
def getBit (d : Descriptor) : Instr := .getbit d

/-- `set_bit(h, d, value)` is `SETBIT d, v` with `true` = 1 and `false` = 0 (R131). -/
def setBit (d : Descriptor) (value : Bool) : Instr := .setbit d (if value then 1#12 else 0#12)

/-- A named signal's read accessor is `GETSIG name` (R131). -/
def readAccessor (g : Signal) : Instr := .getsig g

/-- A named signal's write accessor is `SETSIG name, v` (R131). -/
def writeAccessor (g : Signal) (v : Value) : Instr := .setsig g v

end Sys2Proof.Machine
end

