-- ==== Sys2Proof/Tests/Slice0.lean ====
section
/-! SUPPORT. Tests: the well-formedness checks, words of spec/95_test_vectors.md decoded, one-step vectors of
its part 2, and one witness for every statement that has hypotheses. -/

namespace Sys2Proof.Tests

open Sys2Proof Sys2Proof.Machine

/-! ## Well-formedness and decoding -/

/-- R133: a descriptor with `readable` = 0 is not well formed. -/
theorem test_wf_getbit_refuses_unreadable : ¬ (Instr.getbit ⟨0x04#8, 3#3, false, true⟩).WellFormed := by
  decide

theorem test_wf_setbit_refuses_unreadable : ¬ (Instr.setbit ⟨0x04#8, 3#3, false, true⟩ 1#12).WellFormed := by
  decide

/-- Vector T1. -/
theorem test_decode_rdreg : decode 0x10200000#32 = .ok (.rdreg 0x02#8) := by decide

/-- Vector T3. -/
theorem test_decode_wrreg : decode 0x204000FF#32 = .ok (.wrreg 0x04#8 0xFF#8) := by decide

/-- Vector GB3. -/
theorem test_decode_getbit : decode 0x30B50000#32 = .ok (.getbit ⟨0x0B#8, 2#3, true, false⟩) := by decide

/-- Vector SB9. -/
theorem test_decode_setbit : decode 0x40478FFF#32 = .ok (.setbit ⟨0x04#8, 3#3, true, true⟩ 0xFFF#12) := by
  decide

/-- Section 2.3, module 21. -/
theorem test_decode_getsig : decode 0x54400000#32 = .ok (.getsig (.qsfp .rst 4)) := by decide

/-- Vector W14. -/
theorem test_decode_setsig : decode 0x6A300001#32 = .ok (.setsig .sfpTxEn 1#12) := by decide

/-- Section 2.6. -/
theorem test_decode_attach : decode 0x80000000#32 = .ok .attach := by decide

theorem test_decode_detach : decode 0x90000000#32 = .ok .detach := by decide

/-- Section 2.7. -/
theorem test_decode_illegal_words :
    [0x00000000#32, 0x70000000#32, 0xA0000000#32, 0xFFFFFFFF#32].map decode
      = [.error .unassignedOp, .error .unassignedOp, .error .unassignedOp, .error .unassignedOp]
    ∧ [0x10200001#32, 0x10201000#32, 0x10210000#32, 0x20400100#32, 0x204080FF#32, 0x30478001#32,
        0x54400001#32, 0x54420000#32, 0x64401000#32, 0x80100000#32, 0x9FFFFFFF#32].all
          (fun cw => decode cw == .error .reservedField) = true
    ∧ [0x30468000#32, 0x40468001#32].map decode = [.error .notReadable, .error .notReadable]
    ∧ [0x50500000#32, 0x51400000#32, 0x52100000#32, 0x57100000#32, 0x5A400000#32, 0x5B000000#32].all
        (fun cw => decode cw == .error .uncataloguedSid) = true := by
  decide

/-! ## Small states -/

/-- Stored bytes chosen as in section 2.6, with 0xA5 in the scratch register. -/
def chip : List Host.Cell :=
  [(0x01, 0x00#8), (0x02, 0xA5#8), (0x03, 0x00#8), (0x04, 0x3C#8), (0x05, 0xC3#8), (0x06, 0xAA#8),
    (0x07, 0x55#8), (0x08, 0x0F#8), (0x09, 0xF0#8), (0x10, 0x00#8)]

/-- A handle with its guard free. -/
def handle : Handle :=
  ⟨7, .free, ⟨some 0x25#6, some 3#2, none, some 0x03#8, some 0x18#8⟩, []⟩

/-- ATTACHED with nothing in flight, and the coming answers of the transport. -/
def idle (bus : List BusAnswer) : State :=
  { State.reset with life := .attached handle, csr := chip, bus := bus }

/-- The request `cw` of requester 1 at the port. -/
def asked (cw : CmdWord) (bus : List BusAnswer) : State := { idle bus with port := [⟨1, cw⟩] }

/-- ATTACHED with operation `i` of requester 1 in flight. -/
def busy (i : Instr) (cur : Option Byte) (t : Txn) (bus : List BusAnswer) : State :=
  { idle bus with
    life := .attached { handle with guard := .held 1 }, active := some ⟨1, i⟩, cur := cur, txn := some t,
    phase := txnPhase t }

/-- Before the first ATTACH, with a binding and answers to the capability call to come. -/
def unbound (caps : List CapAnswer) (bus : List BusAnswer) : State :=
  { State.reset with csr := chip, bindings := [7], caps := caps, bus := bus }

/-- The next state of an outcome. -/
def nextOf : Host.Outcome State Fault Refusal → Option State
  | .next t => some t
  | .fault f => nomatch f
  | .refused _ => none

/-- What one step records. -/
def recorded (s : State) : Option (List Event) := (nextOf (step s)).map fun t => t.history

/-- What one step leaves in the register space. -/
def stored (s : State) : Option (List Host.Cell) := (nextOf (step s)).map fun t => t.csr

/-- A successful answer that supplies `hw`. -/
def good (hw : Byte) : BusAnswer := .ok hw []

/-! ## One-step vectors -/

/-- The first step after reset runs the request that `withFetchWord` places, for one word of every row. -/
theorem test_fetch_runs :
    [0x10000000, 0x20000000, 0x30010000, 0x40010000, 0x50000000, 0x60000000, 0x80000000, 0x90000000].all
      (fun w => (nextOf (step (State.reset.withFetchWord 32 w))).isSome
        && (decodeTableWord 32 w).isSome) = true := by
  decide

/-- Vector T1. -/
theorem test_rdreg_returns_byte :
    recorded (asked 0x10200000#32 [good 0x00#8])
      = some [.read 0x02#8 (some 0xA5#8), .response 1 (.okByte 0xA5#8)] := by decide

/-- Vector T2. -/
theorem test_rdreg_error :
    recorded (asked 0x10200000#32 [.err 0x00#8])
      = some [.read 0x02#8 none, .diag ⟨.rd, 0x02#8⟩, .response 1 (.fault .transportFault)] := by decide

/-- Vector T3. -/
theorem test_wrreg_stores :
    (stored (asked 0x204000FF#32 [good 0x00#8])).map (fun m => Memory.read m 0x04) = some (some 0xFF#8) := by
  decide

/-- Vector T8: a write of a register without storage bits succeeds and stores nothing. -/
theorem test_wrreg_hardware_driven :
    stored (asked 0x20B00000#32 [good 0x00#8]) = some chip := by decide

/-- Vector GB3. -/
theorem test_getbit_presence :
    recorded (asked 0x30B50000#32 [good 0xFB#8])
      = some [.read 0x0B#8 (some 0xFB#8), .response 1 (.okBool false)] := by decide

/-- Vector GB4. -/
theorem test_getbit_error :
    recorded (asked 0x30B50000#32 [.err 0x00#8])
      = some [.read 0x0B#8 none, .diag ⟨.rd, 0x0B#8⟩, .response 1 (.fault .transportFault)] := by decide

/-- Check S2: bit 3 of 0x3C cleared gives 0x34. -/
theorem test_setbit_merges :
    recorded (asked 0x40478000#32 [good 0x00#8, good 0x00#8])
      = some [.read 0x04#8 (some 0x3C#8), .write 0x04#8 0x34#8 true, .response 1 .ok] := by decide

/-- Vector SB8: the domain wins over the writable flag. -/
theorem test_setbit_domain_first :
    recorded (asked 0x40470002#32 []) = some [.response 1 (.fault .invalidInput)] := by decide

/-- Vector H5, and H4 for the version: identity is answered without a transaction. -/
theorem test_getsig_identity :
    recorded (asked 0x50000000#32 []) = some [.response 1 (.okByte 0x25#8)]
    ∧ recorded (asked 0x50200000#32 []) = some [.response 1 (.fault .transportFault)] := by decide

/-- Vector H8: SFP status 2 is bit 2 of the first SFP register. -/
theorem test_getsig_bit :
    recorded (asked 0x5A200000#32 [good 0x05#8])
      = some [.read 0x0F#8 (some 0x05#8), .response 1 (.okBool true)] := by decide

/-- Vector W14: unassigned bits are written back as read, and only the assigned bit is stored. -/
theorem test_setsig_bit :
    recorded (asked 0x6A300001#32 [good 0x36#8, good 0x00#8])
      = some [.read 0x10#8 (some 0x36#8), .write 0x10#8 0x37#8 true, .response 1 .ok]
    ∧ (stored (asked 0x6A300001#32 [good 0x36#8, good 0x00#8])).map (fun m => Memory.read m 0x10)
      = some (some 0x01#8) := by decide

/-- Vectors W7 and W3. -/
theorem test_setsig_checks_and_byte :
    recorded (asked 0x68000001#32 []) = some [.response 1 (.fault .notWritable)]
    ∧ recorded (asked 0x68000002#32 []) = some [.response 1 (.fault .invalidInput)]
    ∧ recorded (asked 0x620000A5#32 [good 0x00#8])
      = some [.write 0x02#8 0xA5#8 true, .response 1 .ok] := by decide

/-- Vector AT3: three failures, and ATTACH responds Ok. -/
theorem test_attach_best_effort :
    (nextOf (step { unbound [.yes]
        [.err 0x00#8, good 0x0C#8, good 0x03#8, good 0x18#8, good 0x00#8, .err 0x77#8, good 0x00#8,
          good 0x00#8, .err 0x99#8, good 0x00#8] with port := [⟨1, 0x80000000#32⟩] })).map
        (fun t => (t.life, t.csr.drop 3, t.history.getLast?))
      = some
        (.attached ⟨7, .free, ⟨none, none, some 0x0C#8, some 0x03#8, some 0x18#8⟩,
            [⟨.rd, 0x00#8⟩, ⟨.wr, 0x05#8⟩, ⟨.wr, 0x08#8⟩]⟩,
          [(0x04, 0xFF#8), (0x05, 0x77#8), (0x06, 0x00#8), (0x07, 0x00#8), (0x08, 0x99#8), (0x09, 0x00#8),
            (0x10, 0x00#8)],
          some (.response 1 .ok)) := by decide

/-- Vector AT2, at once and after a delay: while the capability call is unanswered ATTACH rests at step 1. -/
theorem test_attach_no_capability :
    (nextOf (step { unbound [.no] [] with port := [⟨1, 0x80000000#32⟩] })).map
        (fun t => (t.life, t.csr, t.history))
      = some (.absent, chip, [.response 1 (.fault .capabilityUnavailable)])
    ∧ (nextOf (step { unbound [.late, .no] [] with port := [⟨1, 0x80000000#32⟩] })).map
        (fun t => (t.life, t.bstep, t.phase, t.history))
      = some (.bringup (Handle.fresh 7), some .s1Cap, .check, []) := by decide

/-- Vector AT6. -/
theorem test_detach :
    (nextOf (step (asked 0x90000000#32 []))).map (fun t => (t.life, t.csr, t.history))
      = some (.detached, chip, [.response 1 .ok]) := by decide

/-- Section 2.7 with section 2.6's gating: IllegalRequest in ATTACHED, no step in ABSENT. -/
theorem test_illegal_word :
    recorded (asked 0x00000000#32 []) = some [.response 1 .illegalRequest]
    ∧ step { State.reset with port := [⟨1, 0x00000000#32⟩] } = .refused .notAccepted :=
  ⟨by decide, rfl⟩

/-- Program P4: a SETBIT whose read is unanswered keeps the guard, and the second requester waits. -/
theorem test_second_requester_waits :
    (nextOf (step { busy (.setsig (.qsfp .rst 4) 0#12) none (.rd 0x04#8) [.late] with
        port := [⟨2, 0x64500000#32⟩] })).map (fun t => (t.waiting, t.history))
      = some ([⟨2, .setsig (.qsfp .rst 5) 0#12⟩], []) := by decide

/-- R130, section 2.3. -/
theorem test_assembly : asmText Params.reference (.getsig (.qsfp .rst 4)) = "GETSIG qsfp21_rst" := by decide

/-! ## Witnesses: for every statement with hypotheses, values that meet them -/

theorem witness_EncodeAndDecodeAreInverse :
    (Instr.setbit ⟨0xFF#8, 7#3, true, false⟩ 0xFFF#12).WellFormed
    ∧ decode 0x4FFF0FFF#32 = .ok (.setbit ⟨0xFF#8, 7#3, true, false⟩ 0xFFF#12) := by decide

/-- One word for each clause. -/
theorem witness_OpcodeRowsSelectOperations :
    decode 0x1FF00000#32 = .ok (.rdreg 0xFF#8)
    ∧ 0x1FF00000#32 &&& 0xF00FFFFF#32 = 0x10000000#32
    ∧ 0x2FF000FF#32 &&& 0xF00FFF00#32 = 0x20000000#32
    ∧ 0x3FFF8000#32 &&& 0xF0017FFF#32 = 0x30010000#32
    ∧ 0x4FFF8FFF#32 &&& 0xF0017000#32 = 0x40010000#32
    ∧ 0x5A300000#32 &&& 0xF00FFFFF#32 = 0x50000000#32
    ∧ Signal.ofSid ((0x5A300000#32).extractLsb' 20 8) = some .sfpTxEn
    ∧ 0x5A400000#32 &&& 0xF00FFFFF#32 = 0x50000000#32
    ∧ Signal.ofSid ((0x5A400000#32).extractLsb' 20 8) = none
    ∧ 0x69F00FFF#32 &&& 0xF00FF000#32 = 0x60000000#32
    ∧ Signal.ofSid ((0x69F00FFF#32).extractLsb' 20 8) = some (.qsfp .int 15)
    ∧ 0x6B000000#32 &&& 0xF00FF000#32 = 0x60000000#32
    ∧ Signal.ofSid ((0x6B000000#32).extractLsb' 20 8) = none
    ∧ 0x1FF00000#32 &&& (Instr.rdreg 0x00#8).rowMask = (Instr.rdreg 0x00#8).rowMatch
    ∧ ((0x7FFFFFFF#32).extractLsb' 28 4).toNat ∈ [0x0, 0x7, 0xA, 0xB, 0xC, 0xD, 0xE, 0xF] := by decide

theorem witness_CatalogueHasNinetySixSignals :
    Signal.sid (.qsfp .int 15) = Signal.sid (.qsfp .int ⟨15, by omega⟩) := rfl

/-- The ends of both clauses. -/
theorem witness_ModuleBitsAreReversedWithinEachRegister :
    (0 : Fin 16).val < 8 ∧ (7 : Fin 16).val < 8 ∧ 8 ≤ (8 : Fin 16).val ∧ 8 ≤ (15 : Fin 16).val := by decide

theorem witness_ExtractAndMergeActOnOneBit : 0 < 8 ∧ 7 < 8 := by decide

theorem witness_MergeLaws : (7#3 : BitIdx) ≠ 0#3 := by decide

theorem witness_StepRunsTheDecodedRequest (s : State) (hs : s = asked 0x10200000#32 [good 0x00#8]) :
    s.active = none ∧ s.waiting = [] ∧ s.port = ⟨1, 0x10200000#32⟩ :: []
    ∧ decode 0x10200000#32 = .ok (.rdreg 0x02#8) := by
  subst hs; decide

/-- Idle, and with an operation in flight. -/
theorem witness_InvalidWordIsAnsweredIllegalRequest :
    decode 0x00000000#32 = .error .unassignedOp
    ∧ (let s := asked 0x00000000#32 [];
      s.port = [⟨1, 0x00000000#32⟩] ∧ s.active = none ∧ s.waiting = [] ∧ s.life = .attached handle)
    ∧ (let s := { busy (.rdreg 0x02#8) none (.rd 0x02#8) [.late] with port := [⟨2, 0x00000000#32⟩] };
      s.port = [⟨2, 0x00000000#32⟩] ∧ s.active = some ⟨1, .rdreg 0x02#8⟩ ∧ s.nextAnswer = .late
        ∧ s.life = .attached { handle with guard := .held 1 }) := by decide

theorem witness_InvalidWordHasNoStepWithoutHandle :
    (let s := { State.reset with port := [⟨2, 0x00000000#32⟩] };
      decode 0x00000000#32 = .error .unassignedOp ∧ s.port = [⟨2, 0x00000000#32⟩] ∧ s.active = none
        ∧ s.waiting = [] ∧ s.life = .absent) := by decide

/-- The arbiter picks the second that waits, or the request at the port. -/
theorem witness_AnyContenderMayGetTheGuard :
    (let s := { idle [] with waiting := [⟨1, .attach⟩, ⟨2, .rdreg 0x02#8⟩], grants := [1] };
      s.active = none ∧ s.waiting ≠ [] ∧ s.waiting[1]? = some ⟨2, .rdreg 0x02#8⟩ ∧ s.grants = 1 :: [])
    ∧ (let s := { asked 0x10200000#32 [] with waiting := [⟨2, .rdreg 0x02#8⟩], grants := [1] };
      s.active = none ∧ s.waiting ≠ [] ∧ s.port = [⟨1, 0x10200000#32⟩]
        ∧ decode 0x10200000#32 = .ok (.rdreg 0x02#8) ∧ s.grants = s.waiting.length :: []) := by decide

/-- In BRINGUP, at the capability call too; in ATTACHED with an empty port; in ATTACHED with a request. -/
theorem witness_SilentTransportLetsOtherRequestsBeServed :
    (let s := { busy .attach none (.rd 0x00#8) [.late] with
        life := .bringup { handle with guard := .held 1 } };
      s.active = some ⟨1, .attach⟩ ∧ s.silent = true
        ∧ s.life = .bringup { handle with guard := .held 1 })
    ∧ (let s := (unbound [.late] []).beginAttach;
      s.active = some ⟨0, .attach⟩ ∧ s.silent = true ∧ s.life = .bringup (Handle.fresh 7))
    ∧ (let s := busy (.rdreg 0x02#8) none (.rd 0x02#8) [.late];
      s.active = some ⟨1, .rdreg 0x02#8⟩ ∧ s.silent = true
        ∧ s.life = .attached { handle with guard := .held 1 } ∧ s.port = [])
    ∧ (let s := { busy (.rdreg 0x02#8) none (.rd 0x02#8) [.late] with port := [⟨2, 0x64500000#32⟩] };
      s.active = some ⟨1, .rdreg 0x02#8⟩ ∧ s.silent = true
        ∧ s.life = .attached { handle with guard := .held 1 } ∧ s.port = [⟨2, 0x64500000#32⟩]
        ∧ decode 0x64500000#32 = .ok (.setsig (.qsfp .rst 5) 0#12)) := by decide

/-- Operations that go to the bus; the same state serves for DETACH. -/
theorem witness_HeldGuardMakesOperationsWait :
    (let s := busy (.rdreg 0x02#8) none (.rd 0x02#8) [.late];
      s.life = .attached { handle with guard := .held 1 }
        ∧ reachesBus s.params (.setbit ⟨0x04#8, 3#3, true, true⟩ 1#12) = true ∧ s.waiting = []) := by decide

/-- The first transaction, and the write of a SETBIT and of a SETSIG. -/
theorem witness_UnansweredTransactionKeepsTheGuard :
    ((idle [.late]).life = .attached handle ∧ handle.guard = .free ∧ (idle [.late]).answerAt 0 = .late
      ∧ reachesBus (idle [.late]).params (.getsig .scratch) = true)
    ∧ (let s := idle [good 0x00#8, .late];
      s.life = .attached handle ∧ s.answerAt 0 = .ok 0x00#8 [] ∧ s.answerAt 1 = .late
        ∧ reachesBus s.params (.setbit ⟨0x04#8, 3#3, true, true⟩ 1#12) = true
        ∧ rmwTarget s.params (.setbit ⟨0x04#8, 3#3, true, true⟩ 1#12) = some 0x04#8
        ∧ reachesBus s.params (.setsig .sfpTxEn 1#12) = true
        ∧ rmwTarget s.params (.setsig .sfpTxEn 1#12) = some 0x10#8) := by decide

/-- The capability call unanswered; the first and the last transaction unanswered. -/
theorem witness_UnansweredAttachStaysInBringup :
    ((unbound [.late] []).life = .absent ∧ (unbound [.late] []).dropBinding.nextCap = .late)
    ∧ (let s := unbound [.yes] [.late];
      s.life = .absent ∧ s.dropBinding.nextCap = .yes ∧ bringupOrder[0]? = some .s2Rev
        ∧ bringupTxn s.params .s2Rev = some (.rd 0x00#8) ∧ s.dropBinding.dropCap.answerAt 0 = .late)
    ∧ (let s := unbound [.yes] (List.replicate 9 (.err 0x00#8) ++ [.late]);
      s.life = .absent ∧ s.dropBinding.nextCap = .yes ∧ bringupOrder[9]? = some .s4SelHi
        ∧ bringupTxn s.params .s4SelHi = some (.wr 0x09#8 0x00#8)
        ∧ s.dropBinding.dropCap.answerAt 9 = .late
        ∧ ∀ j : Fin 9, isLate (s.dropBinding.dropCap.answerAt j.val) = false) := by decide

theorem witness_DelayedOperationActsAsIfIssuedNow (s : State)
    (hs : s = busy (.setbit ⟨0x04#8, 3#3, true, true⟩ 0#12) none (.rd 0x04#8) [good 0x00#8]) :
    s.active = some ⟨1, .setbit ⟨0x04#8, 3#3, true, true⟩ 0#12⟩
    ∧ s.life = .attached { handle with guard := .held 1 } ∧ s.cur = none ∧ isLate s.nextAnswer = false
    ∧ reachesBus s.params (.setbit ⟨0x04#8, 3#3, true, true⟩ 0#12) = true := by
  subst hs; decide

/-- SETBIT, and SETSIG of the signal with that register and bit; any answer, successful or failed. -/
theorem witness_DelayedSetbitWriteUsesTheByteRead (a : BusAnswer) :
    (∀ i ∈ [Instr.setbit ⟨0x04#8, 3#3, true, true⟩ 0#12, .setsig (.qsfp .rst 4) 0#12],
      let s := busy i (some 0x3C#8) (.wr 0x04#8 0x34#8) [a];
      s.active = some ⟨1, i⟩ ∧ s.life = .attached { handle with guard := .held 1 } ∧ s.cur = some 0x3C#8
        ∧ s.nextAnswer = a ∧ sigKind s.params (.qsfp .rst 4) = .bit .rstLo 3#3
        ∧ addrOf s.params .rstLo = 0x04#8)
    ∧ 0x34#8 = mergeBit 0x3C#8 3#3 (valueBit 0#12) :=
  ⟨fun _ _ => ⟨rfl, rfl, rfl, rfl, rfl, rfl⟩, by decide⟩

/-- An unanswered transaction, the first and the last, and an unanswered capability call. -/
theorem witness_DelayedAttachEndsAsUndelayed :
    (let s := unbound [.yes] [.late, good 0xE5#8];
      s.life = .absent ∧ s.dropBinding.nextCap = .yes ∧ s.bus = [] ++ .late :: [good 0xE5#8])
    ∧ (let s := unbound [.yes] (List.replicate 9 (.err 0x00#8) ++ .late :: [.late, good 0x00#8]);
      s.life = .absent ∧ s.dropBinding.nextCap = .yes
        ∧ s.bus = List.replicate 9 (.err 0x00#8) ++ .late :: [.late, good 0x00#8]
        ∧ (List.replicate 9 (BusAnswer.err 0x00#8)).length < 10
        ∧ ∀ a ∈ List.replicate 9 (BusAnswer.err 0x00#8), isLate a = false)
    ∧ (unbound [.late, .yes] []).life = .absent ∧ (unbound [.late, .yes] []).caps = .late :: [.yes] := by decide

/-- A run in which a RDREG waits for one step and is then answered; afterwards there is nothing to do. -/
def blockedRun : Nat → State
  | 0 => busy (.rdreg 0x02#8) none (.rd 0x02#8) [.late, good 0x00#8]
  | 1 => busy (.rdreg 0x02#8) none (.rd 0x02#8) [good 0x00#8]
  | _ + 2 => resume ⟨1, .rdreg 0x02#8⟩ (busy (.rdreg 0x02#8) none (.rd 0x02#8) [good 0x00#8])

theorem witness_BlockedOperationGoesOnWhenAnswered :
    IsRun blockedRun ∧ TransportAnswers blockedRun ∧ GuardOk (blockedRun 0)
    ∧ (blockedRun 0).active = some ⟨1, .rdreg 0x02#8⟩ := by
  refine ⟨fun n => ?_, fun n hn => ?_, .inl ⟨⟨_, rfl, rfl⟩, ⟨_, rfl, rfl, rfl⟩, nofun, nofun⟩, rfl⟩
  · match n with
    | 0 => rfl
    | 1 => rfl
    | _ + 2 => rfl
  · match n, hn with
    | 0, _ => exact ⟨1, by omega, rfl⟩
    | 1, _ => exact ⟨1, by omega, rfl⟩
    | _ + 2, h => exact absurd rfl h

/-- Any answer, successful or failed; the address is free. -/
theorem witness_RdregResult (a : BusAnswer) :
    (idle [a]).life = .attached handle ∧ handle.guard = .free ∧ (idle [a]).nextAnswer = a := ⟨rfl, rfl, rfl⟩

/-- Both clauses; a register at each end of the address map, one whose write could fire the effect, and no
register. -/
theorem witness_WrregResult (a : BusAnswer) :
    ((idle [a]).life = .attached handle ∧ handle.guard = .free ∧ (idle [a]).nextAnswer = a)
    ∧ (∀ r, regAt (idle [a]).params 0x03#8 = some r → firesSoftReset (idle [a]).params r 0x01#8 = false)
    ∧ regAt (idle [a]).params 0x00#8 = some .rev ∧ regAt (idle [a]).params 0x13#8 = some .year
    ∧ regAt (idle [a]).params 0x14#8 = none ∧ regAt (idle [a]).params 0xFF#8 = none := by
  have h : ∀ r, firesSoftReset Params.reference r 0x01#8 = false := fun r => by cases r <;> decide
  exact ⟨⟨rfl, rfl, rfl⟩, fun r _ => h r, rfl, rfl, rfl, rfl⟩

/-- A state whose SOFT_RST_EFFECT is not the identity. -/
def withEffect (fx : List (Reg × Byte)) : State :=
  { idle [.ok 0x00#8 fx] with params := { Params.reference with softRstEffect := .drawn } }

/-- An effect with a later entry elsewhere, one that lists a register twice, the empty effect, and an address it
leaves alone. -/
theorem witness_SoftResetEffectIsApplied (fx : List (Reg × Byte)) :
    (withEffect fx).life = .attached handle ∧ handle.guard = .free
    ∧ (withEffect fx).nextAnswer = .ok 0x00#8 fx
    ∧ regAt (withEffect fx).params 0x03#8 = some .softRst
    ∧ firesSoftReset (withEffect fx).params .softRst 0x01#8 = true
    ∧ ([(Reg.scratch, 0x00#8), (.rstLo, 0xFF#8)] = [] ++ (.scratch, 0x00#8) :: [(.rstLo, 0xFF#8)]
      ∧ ∀ c ∈ [(Reg.rstLo, 0xFF#8)], addrOf (withEffect fx).params c.1 ≠ addrOf (withEffect fx).params .scratch)
    ∧ [(Reg.softRst, 0x00#8), (.softRst, 0x01#8)] = [(.softRst, 0x00#8)] ++ (.softRst, 0x01#8) :: []
    ∧ ∀ c ∈ [(Reg.scratch, 0x00#8), (.rstLo, 0xFF#8)],
        addrOf (withEffect fx).params c.1 ≠ 0x05#8 ∧ addrOf (withEffect fx).params c.1 ≠ 0x03#8 := by
  have h : firesSoftReset { Params.reference with softRstEffect := .drawn } .softRst 0x01#8 = true := by decide
  have e : ∀ c ∈ [(Reg.rstLo, 0xFF#8)], addrOf Params.reference c.1 ≠ addrOf Params.reference .scratch := by
    decide
  have e' : ∀ c ∈ [(Reg.scratch, 0x00#8), (.rstLo, 0xFF#8)],
      addrOf Params.reference c.1 ≠ 0x05#8 ∧ addrOf Params.reference c.1 ≠ 0x03#8 := by decide
  exact ⟨rfl, rfl, rfl, rfl, h, ⟨rfl, e⟩, rfl, e'⟩

/-- A register written where the effect is the identity, and one where it is not. -/
theorem witness_ReadAfterWriteReturnsStorageBits :
    (let s := idle [good 0x00#8, good 0xFE#8];
      s.life = .attached handle ∧ handle.guard = .free ∧ regAt s.params 0x10#8 = some .sfp1
        ∧ firesSoftReset s.params .sfp1 0xFF#8 = false ∧ s.answerAt 0 = .ok 0x00#8 []
        ∧ s.answerAt 1 = .ok 0xFE#8 [])
    ∧ firesSoftReset { Params.reference with softRstEffect := .drawn } .softRst 0xFE#8 = false := by decide

theorem witness_UnmappedAddressesHoldNothing :
    (let s := idle [good 0x5A#8];
      s.life = .attached handle ∧ handle.guard = .free ∧ regAt s.params 0x14#8 = none
        ∧ isLate s.nextAnswer = false ∧ s.nextAnswer = .ok 0x5A#8 []) := by decide

/-- Any answer, successful or failed; the descriptor is free. -/
theorem witness_GetbitResult (a : BusAnswer) :
    (idle [a]).life = .attached handle ∧ handle.guard = .free ∧ (idle [a]).nextAnswer = a := ⟨rfl, rfl, rfl⟩

/-- Both sides of each domain's end, and a clear writable flag. -/
theorem witness_RejectionsTouchNothing :
    (idle []).life = .attached handle
    ∧ 1 < (2#12 : Value).toNat
    ∧ ((1#12 : Value).toNat ≤ 1 ∧ (Descriptor.mk 0x04#8 3#3 true false).writable = false)
    ∧ sigMax (idle []).params .scratch < (0x100#12 : Value).toNat
    ∧ sigMax (idle []).params (.ident .codeVer) < (0x40#12 : Value).toNat
    ∧ ((0x3F#12 : Value).toNat ≤ sigMax (idle []).params (.ident .codeVer)
      ∧ sigWritable (idle []).params (.ident .codeVer) = false) := by decide

/-- Any two answers: the read fails, both succeed, or the write fails. -/
theorem witness_SetbitResult (a b : BusAnswer) :
    (idle [a, b]).life = .attached handle ∧ handle.guard = .free ∧ (1#12 : Value).toNat ≤ 1
    ∧ (Descriptor.mk 0x04#8 3#3 true true).writable = true
    ∧ (idle [a, b]).answerAt 0 = a ∧ (idle [a, b]).answerAt 1 = b :=
  ⟨rfl, rfl, by decide, rfl, rfl, rfl⟩

theorem witness_SetbitRoundTripKeepsSiblings :
    (let s := idle [good 0x00#8, good 0x00#8, good 0x00#8];
      let d : Descriptor := ⟨0x04#8, 3#3, true, true⟩;
      s.life = .attached handle ∧ handle.guard = .free ∧ (1#12 : Value).toNat ≤ 1 ∧ d.writable = true
        ∧ regAt s.params d.reg = some .rstLo
        ∧ (storageMask s.params .rstLo).getLsbD d.bit.toNat = true
        ∧ (Reg.rstLo = .softRst → s.params.softRstEffect = .identity)
        ∧ s.answerAt 0 = .ok 0x00#8 [] ∧ s.answerAt 1 = .ok 0x00#8 [] ∧ s.answerAt 2 = .ok 0x00#8 []) := by
  decide

/-- Four successful answers. -/
def four : State := idle [good 0x00#8, good 0x01#8, good 0x02#8, good 0x03#8]

theorem four_answers (k : Nat) (hk : k < 4) : ∃ hw fx, four.answerAt k = .ok hw fx := by
  match k, hk with
  | 0, _ => exact ⟨_, _, rfl⟩
  | 1, _ => exact ⟨_, _, rfl⟩
  | 2, _ => exact ⟨_, _, rfl⟩
  | 3, _ => exact ⟨_, _, rfl⟩

theorem witness_TwoBitWritesLoseNeitherUpdate :
    (four.life = .attached handle ∧ handle.guard = .free ∧ (1#12 : Value).toNat ≤ 1
      ∧ (0#12 : Value).toNat ≤ 1 ∧ (3#3 : BitIdx) ≠ 2#3 ∧ regAt four.params 0x04#8 = some .rstLo
      ∧ (storageMask four.params .rstLo).getLsbD (3#3 : BitIdx).toNat = true
      ∧ (storageMask four.params .rstLo).getLsbD (2#3 : BitIdx).toNat = true
      ∧ (Reg.rstLo = .softRst → four.params.softRstEffect = .identity))
    ∧ ∀ k, k < 4 → ∃ hw fx, four.answerAt k = .ok hw fx :=
  ⟨by decide, four_answers⟩

/-- A signal of each kind, and any answer. -/
theorem witness_GetsigReadsTheSignalsRegister (a : BusAnswer) :
    (idle [a]).life = .attached handle ∧ handle.guard = .free
    ∧ sigKind (idle [a]).params (.qsfp .rst 4) = .bit .rstLo 3#3
    ∧ sigKind (idle [a]).params .scratch = .byte .scratch ∧ (idle [a]).nextAnswer = a :=
  ⟨rfl, rfl, rfl, rfl, rfl⟩

/-- A filled and an empty cell. -/
theorem witness_GetsigAnswersIdentityFromTheSnapshot :
    (idle []).life = .attached handle ∧ handle.ident.codeVer = some 0x25#6 ∧ handle.ident.codeDay = none := by
  decide

/-- A writable signal of each kind, and any two answers. -/
theorem witness_SetsigWritesTheSignalsRegister (a b : BusAnswer) :
    (idle [a, b]).life = .attached handle ∧ handle.guard = .free
    ∧ ((1#12 : Value).toNat ≤ sigMax (idle [a, b]).params (.qsfp .rst 4)
      ∧ sigWritable (idle [a, b]).params (.qsfp .rst 4) = true
      ∧ sigKind (idle [a, b]).params (.qsfp .rst 4) = .bit .rstLo 3#3)
    ∧ ((0xFF#12 : Value).toNat ≤ sigMax (idle [a, b]).params .scratch
      ∧ sigWritable (idle [a, b]).params .scratch = true
      ∧ sigKind (idle [a, b]).params .scratch = .byte .scratch
      ∧ (0xFF#8 : Byte).toNat = (0xFF#12 : Value).toNat)
    ∧ (idle [a, b]).nextAnswer = a ∧ (idle [a, b]).answerAt 0 = a ∧ (idle [a, b]).answerAt 1 = b :=
  ⟨rfl, rfl, ⟨by show _ ≤ 1; decide, rfl, rfl⟩, ⟨by show _ ≤ 255; decide, rfl, rfl, rfl⟩, rfl, rfl, rfl⟩

/-- A register with storage bits, one whose write could fire the effect, no register, another address. -/
theorem witness_LandedAndFailedWritesTouchOneRegister :
    regAt Params.reference 0x10#8 = some .sfp1 ∧ firesSoftReset Params.reference .sfp1 0xFF#8 = false
    ∧ regAt Params.reference 0x03#8 = some .softRst ∧ firesSoftReset Params.reference .softRst 0x01#8 = false
    ∧ regAt Params.reference 0x14#8 = none ∧ (0x0F#8 : Byte) ≠ 0x10#8 := by decide

/-- A register without storage bits at its address. -/
theorem witness_StorageBitsOfEachRegister :
    regAt Params.reference 0x0B#8 = some .prsLo ∧ storageMask Params.reference .prsLo = 0x00#8
    ∧ (idle []).params = Params.reference := by decide

/-- The ends of the domain of a bit-kind signal; WRREG and RDREG words outside their forms. -/
theorem witness_OperandDomains :
    sigKind Params.reference .sfpTxEn = .bit .sfp1 0#3
    ∧ ((0x20400100#32).extractLsb' 28 4 = 2#4 ∧ 255 < ((0x20400100#32).extractLsb' 0 12).toNat)
    ∧ ((0x10200001#32).extractLsb' 28 4 ∈ [1#4, 3#4, 5#4, 8#4, 9#4]
      ∧ (0x10200001#32).extractLsb' 0 12 ≠ 0#12) := by decide

theorem witness_ModuleWriteLeavesOtherModulesAlone :
    (four.life = .attached handle ∧ handle.guard = .free ∧ validParams four.params = true
      ∧ groupWritable .rst = true ∧ (1#12 : Value).toNat ≤ 1)
    ∧ ∀ n, n < 2 → ∃ hw fx, four.answerAt n = .ok hw fx :=
  ⟨by decide, fun n hn => four_answers n (by omega)⟩

/-- An operation with two transactions, and one that does not reach the bus. -/
theorem witness_TransactionCountsAreExact :
    (four.life = .attached handle ∧ handle.guard = .free
      ∧ Instr.setsig (.qsfp .rst 4) 1#12 ≠ .detach ∧ Instr.setsig (.qsfp .rst 4) 1#12 ≠ .attach
      ∧ reachesBus four.params (.setsig (.qsfp .rst 4) 1#12) = true
      ∧ reachesBus four.params (.setsig (.qsfp .rst 4) 2#12) = false)
    ∧ ∀ k, k < 2 → ∃ hw fx, four.answerAt k = .ok hw fx :=
  ⟨by decide, fun n hn => four_answers n (by omega)⟩

/-- From ABSENT and from DETACHED. -/
theorem witness_AttachWithoutCapabilityProducesNoHandle :
    ((unbound [.no] []).life = .absent ∧ (unbound [.no] []).dropBinding.nextCap = .no)
    ∧ (let s := { unbound [.no] [] with life := .detached };
      s.life = .detached ∧ s.dropBinding.nextCap = .no) := by decide

/-- Before a fault-free ATTACH (vector AT1). -/
def beforeAttach : State :=
  unbound [.yes] [good 0xE5#8, good 0x0C#8, good 0x03#8, good 0x18#8, good 0x00#8, good 0x00#8, good 0x00#8,
    good 0x00#8, good 0x00#8, good 0x00#8]

theorem witness_FaultFreeAttachSetsTheBaseline :
    (beforeAttach.life = .absent ∧ beforeAttach.dropBinding.nextCap = .yes
      ∧ validParams beforeAttach.params = true
      ∧ readOf (beforeAttach.dropBinding.dropCap.answerAt 0) = some 0xE5#8
      ∧ readOf (beforeAttach.dropBinding.dropCap.answerAt 1) = some 0x0C#8
      ∧ readOf (beforeAttach.dropBinding.dropCap.answerAt 2) = some 0x03#8
      ∧ readOf (beforeAttach.dropBinding.dropCap.answerAt 3) = some 0x18#8)
    ∧ ∀ k, 4 ≤ k → k < 10 → ∃ hw fx, beforeAttach.dropBinding.dropCap.answerAt k = .ok hw fx := by
  refine ⟨by decide, fun k h1 h2 => ?_⟩
  match k, h1, h2 with
  | 4, _, _ => exact ⟨_, _, rfl⟩
  | 5, _, _ => exact ⟨_, _, rfl⟩
  | 6, _, _ => exact ⟨_, _, rfl⟩
  | 7, _, _ => exact ⟨_, _, rfl⟩
  | 8, _, _ => exact ⟨_, _, rfl⟩
  | 9, _, _ => exact ⟨_, _, rfl⟩

/-- Before an ATTACH of which three transactions fail (vector AT3), from DETACHED. -/
def beforeBadAttach : State :=
  { unbound [.yes]
      [.err 0x00#8, good 0x0C#8, good 0x03#8, good 0x18#8, good 0x00#8, .err 0x77#8, good 0x00#8,
        good 0x00#8, .err 0x99#8, good 0x00#8] with life := .detached }

theorem witness_AttachIsBestEffort :
    (beforeBadAttach.life = .detached ∧ beforeBadAttach.dropBinding.nextCap = .yes
      ∧ validParams beforeBadAttach.params = true)
    ∧ ∀ k, k < 10 → isLate (beforeBadAttach.dropBinding.dropCap.answerAt k) = false := by
  have h : ∀ k : Fin 10, isLate (beforeBadAttach.dropBinding.dropCap.answerAt k.val) = false := by decide
  exact ⟨by decide, fun k hk => h ⟨k, hk⟩⟩

/-- A next state, and an address outside the six. -/
theorem witness_AttachFrame :
    (∃ t, exec .attach beforeAttach = .next t) ∧ validParams beforeAttach.params = true
    ∧ ∀ r ∈ [Reg.rstLo, .rstHi, .lpmodeLo, .lpmodeHi, .modselLo, .modselHi],
        addrOf beforeAttach.params r ≠ 0x03#8 :=
  ⟨⟨_, rfl⟩, by decide, by decide⟩

/-- Nothing waits, and something waits. -/
theorem witness_DetachResult :
    ((idle []).life = .attached handle ∧ handle.guard = .free ∧ (idle []).waiting = [])
    ∧ (let s := { idle [] with waiting := [⟨2, .rdreg 0x02#8⟩] };
      s.life = .attached handle ∧ s.waiting ≠ []) := by decide

theorem witness_LifecycleGatesOperations :
    (Instr.detach ≠ .attach ∧ ∀ h, State.reset.life ≠ .attached h) ∧ (idle []).life = .attached handle :=
  ⟨⟨by decide, fun _ => nofun⟩, rfl⟩

/-- Each operation answers a next state. -/
theorem witness_ReadOperationsFrame :
    (∃ t, exec (.rdreg 0x02#8) (idle [good 0x00#8]) = .next t)
    ∧ (∃ t, exec (.getbit ⟨0x0B#8, 2#3, true, false⟩) (idle [.err 0x00#8]) = .next t)
    ∧ (∃ t, exec (.getsig .scratch) (idle [.late]) = .next t) :=
  ⟨⟨_, rfl⟩, ⟨_, rfl⟩, ⟨_, rfl⟩⟩

/-- Each operation answers a next state; one stores somewhere and one nowhere. -/
theorem witness_StoreOperationsFrame :
    (regAt (idle []).params 0x02#8 = some .softRst → (idle []).params.softRstEffect = .identity)
    ∧ (∃ t, exec (.wrreg 0x04#8 0xFF#8) (idle [good 0x00#8, good 0x00#8]) = .next t)
    ∧ (∃ t, exec (.setbit ⟨0x04#8, 3#3, true, true⟩ 1#12) (idle [good 0x00#8, good 0x00#8]) = .next t)
    ∧ (∃ t, exec (.setsig .scratch 0xFF#12) (idle [good 0x00#8, good 0x00#8]) = .next t)
    ∧ storeTarget (idle []).params (.setsig .scratch 0xFF#12) = some 0x02#8
    ∧ (∃ t, exec (.setsig (.ident .codeVer) 0#12) (idle []) = .next t)
    ∧ storeTarget (idle []).params (.setsig (.ident .codeVer) 0#12) = none :=
  ⟨fun _ => rfl, ⟨_, rfl⟩, ⟨_, rfl⟩, ⟨_, rfl⟩, rfl, ⟨_, rfl⟩, rfl⟩

/-- Stored bytes that meet the invariant, in a state that steps. -/
theorem witness_StepKeepsRegisterSpaceCanonical :
    CsrOk { asked 0x10200000#32 [] with csr := [(0x02, 0xA5#8), (0x10, 0x01#8)] }
    ∧ ∃ t, step { asked 0x10200000#32 [] with csr := [(0x02, 0xA5#8), (0x10, 0x01#8)] } = .next t := by
  refine ⟨⟨by decide, fun c hc => ?_⟩, _, rfl⟩
  rcases List.mem_cons.mp hc with rfl | hc
  · exact ⟨.scratch, by decide, by decide⟩
  · rcases List.mem_cons.mp hc with rfl | hc
    · exact ⟨.sfp1, by decide, by decide⟩
    · cases hc

/-- A state in which a SETBIT waits for the answer to its write, with a request at the port. -/
def inFlight (bus : List BusAnswer) : State :=
  { busy (.setbit ⟨0x04#8, 3#3, true, true⟩ 0#12) (some 0x3C#8) (.wr 0x04#8 0x34#8) bus with
    port := [⟨2, 0x64500000#32⟩] }

theorem inFlight_guard (bus : List BusAnswer) : GuardOk (inFlight bus) :=
  .inl ⟨⟨_, rfl, rfl⟩, ⟨_, rfl, rfl, rfl⟩, nofun, nofun⟩

/-- Busy and silent, busy and answered, and waiting for the capability answer. -/
theorem witness_StepKeepsTheGuardDiscipline :
    (GuardOk (inFlight [.late]) ∧ ∃ t, step (inFlight [.late]) = .next t)
    ∧ (GuardOk (inFlight [good 0x00#8]) ∧ ∃ t, step (inFlight [good 0x00#8]) = .next t)
    ∧ GuardOk (unbound [.late] []).beginAttach ∧ ∃ t, step (unbound [.late] []).beginAttach = .next t :=
  ⟨⟨inFlight_guard _, _, rfl⟩, ⟨inFlight_guard _, _, rfl⟩, .inr ⟨rfl, rfl, rfl, rfl, rfl, _, rfl, rfl⟩, _, rfl⟩

/-- A latch that is set and fresh. -/
theorem witness_StepKeepsTheLatchFresh :
    GuardOk (inFlight [.late]) ∧ LatchFresh (inFlight [.late]) ∧ ∃ t, step (inFlight [.late]) = .next t := by
  refine ⟨inFlight_guard _, ?_, _, rfl⟩
  intro op c a r ho hc ha hr
  cases ho
  cases hc
  cases ha
  have h : r = .rstLo := by
    have e : regAt (inFlight [.late]).params 0x04#8 = some .rstLo := by decide
    rw [e] at hr
    exact (Option.some.inj hr).symm
  subst h
  decide

theorem witness_NothingInterleavesWithTheOperationInFlight :
    GuardOk (inFlight [.late]) ∧ (∃ op, (inFlight [.late]).active = some op)
    ∧ (inFlight [.late]).silent = true ∧ ∃ t, step (inFlight [.late]) = .next t :=
  ⟨inFlight_guard _, ⟨_, rfl⟩, rfl, _, rfl⟩

theorem witness_StepKeepsTheParameters : ∃ t, step (asked 0x10200000#32 [.err 0x00#8]) = .next t := ⟨_, rfl⟩

/-- A handle attached before the step and after it. -/
theorem witness_IdentityIsNeverRefreshed :
    GuardOk (asked 0x10200000#32 [.err 0x00#8]) ∧ (asked 0x10200000#32 [.err 0x00#8]).life = .attached handle
    ∧ ∃ t, step (asked 0x10200000#32 [.err 0x00#8]) = .next t :=
  ⟨⟨rfl, rfl, rfl, rfl, fun _ h => by cases h; rfl⟩, rfl, _, rfl⟩

/-- A failed transaction, a handle before and after. -/
theorem witness_EveryFailureIsLoggedOnce :
    (asked 0x10200000#32 [.err 0x00#8]).life.handle? = some handle
    ∧ ∃ t h', step (asked 0x10200000#32 [.err 0x00#8]) = .next t ∧ t.life.handle? = some h' :=
  ⟨rfl, _, _, rfl, rfl⟩

/-- A write elsewhere, and the choice of the soft-reset clause where the effect is not the identity. -/
theorem witness_RegistersChangeOnlyByWriteTransactions :
    ((asked 0x204000FF#32 [good 0x00#8]).params.softRstEffect = .identity
      ∧ writesTo 0x05#8 [.write 0x04#8 0xFF#8 true, .response 1 .ok] = false
      ∧ ∃ t, step (asked 0x204000FF#32 [good 0x00#8]) = .next t)
    ∧ (addrOf (withEffect []).params .softRst = 0x03#8
      ∧ writesTo 0x03#8 [.write 0x04#8 0xFF#8 true, .response 1 .ok] = false) :=
  ⟨⟨rfl, rfl, _, rfl⟩, rfl, rfl⟩

/-- Besides reset: an attached handle and nothing to do. -/
theorem witness_StepWithoutRequestChangesNothing :
    (idle []).active = none ∧ (idle []).waiting = [] ∧ (idle []).port = [] := by decide

end Sys2Proof.Tests
end

section
/-! SUPPORT. What a step of the machine can do, said once: the register space and the history move together along
transactions, the handle only grows its diagnostic list, and every step is bookkeeping, an operation that starts or
one that goes on. -/

namespace Sys2Proof.Machine

/-! ## The register space keeps its canonical form -/

/-- The register space is canonical and holds storage bits only, for given parameters (R29). -/
def CellsOk (p : Params) (m : List Host.Cell) : Prop :=
  Memory.wf m = true ∧ ∀ c ∈ m, CellOk p c

theorem csrOk_iff (s : State) : CsrOk s ↔ CellsOk s.params s.csr := Iff.rfl

theorem CellsOk.storeIn {p : Params} {m : List Host.Cell} (hm : CellsOk p m) (r : Reg) (b : Byte) :
    CellsOk p (storeIn p m r b) := by
  refine ⟨wf_storeIn p m r b hm.1, fun c hc => ?_⟩
  unfold Machine.storeIn at hc
  split at hc
  · exact hm.2 c hc
  · rcases Memory.mem_write _ _ _ _ hc with rfl | hc
    · exact ⟨r, rfl, by simp [BitVec.and_assoc]⟩
    · exact hm.2 c hc

theorem CellsOk.effectIn {p : Params} {m : List Host.Cell} (hm : CellsOk p m) (fx : List (Reg × Byte)) :
    CellsOk p (effectIn p m fx) := by
  induction fx generalizing m with
  | nil => exact hm
  | cons c rest ih => exact ih (hm.storeIn c.1 c.2)

theorem CellsOk.landIn {p : Params} {m : List Host.Cell} (hm : CellsOk p m) (a b : Byte)
    (fx : List (Reg × Byte)) : CellsOk p (landIn p m a b fx) := by
  unfold Machine.landIn
  split
  · split
    · exact (hm.storeIn _ _).effectIn fx
    · exact hm.storeIn _ _
  · exact hm

theorem CellsOk.failIn {p : Params} {m : List Host.Cell} (hm : CellsOk p m) (a left : Byte) :
    CellsOk p (failIn p m a left) := by
  unfold Machine.failIn
  split
  · exact hm.storeIn _ _
  · exact hm

/-! ## The history and the register space along transactions -/

@[simp] theorem diagEvents_append (es es' : List Event) :
    diagEvents (es ++ es') = diagEvents es ++ diagEvents es' := by
  induction es with
  | nil => rfl
  | cons e es ih => cases e <;> simp [diagEvents, ih]

/-- `BusTrace p m es m'`: recording the events `es`, the chip's register space goes from `m` to `m'`. Each
transaction changes it as R98 and R99 say, and each failed one is followed by its diagnostic event (R160, R161). -/
inductive BusTrace (p : Params) : List Host.Cell → List Event → List Host.Cell → Prop
  | nil (m : List Host.Cell) : BusTrace p m [] m
  | response {m es m'} (q : Tag) (r : Result) (h : BusTrace p m es m') :
      BusTrace p m (.response q r :: es) m'
  | readOk {m es m'} (a b : Byte) (h : BusTrace p m es m') : BusTrace p m (.read a (some b) :: es) m'
  | readErr {m es m'} (a : Byte) (h : BusTrace p m es m') :
      BusTrace p m (.read a none :: .diag ⟨.rd, a⟩ :: es) m'
  | writeOk {m es m'} (a b : Byte) (fx : List (Reg × Byte)) (h : BusTrace p (landIn p m a b fx) es m') :
      BusTrace p m (.write a b true :: es) m'
  | writeErr {m es m'} (a b left : Byte) (h : BusTrace p (failIn p m a left) es m') :
      BusTrace p m (.write a b false :: .diag ⟨.wr, a⟩ :: es) m'

theorem BusTrace.trans {p : Params} {m m' m'' : List Host.Cell} {es es' : List Event}
    (h : BusTrace p m es m') (h' : BusTrace p m' es' m'') : BusTrace p m (es ++ es') m'' := by
  induction h with
  | nil m => exact h'
  | response q r _ ih => exact .response q r (ih h')
  | readOk a b _ ih => exact .readOk a b (ih h')
  | readErr a _ ih => exact .readErr a (ih h')
  | writeOk a b fx _ ih => exact .writeOk a b fx (ih h')
  | writeErr a b left _ ih => exact .writeErr a b left (ih h')

/-- The register space stays canonical along transactions (R29). -/
theorem BusTrace.cellsOk {p : Params} {m m' : List Host.Cell} {es : List Event} (h : BusTrace p m es m')
    (hm : CellsOk p m) : CellsOk p m' := by
  induction h with
  | nil m => exact hm
  | response q r _ ih => exact ih hm
  | readOk a b _ ih => exact ih hm
  | readErr a _ ih => exact ih hm
  | writeOk a b fx _ ih => exact ih (hm.landIn a b fx)
  | writeErr a b left _ ih => exact ih (hm.failIn a left)

/-- Along transactions the diagnostic events are those of the failed ones, in order (R27). -/
theorem BusTrace.diagEvents_eq_failures {p : Params} {m m' : List Host.Cell} {es : List Event}
    (h : BusTrace p m es m') : diagEvents es = failures es := by
  induction h with
  | nil m => rfl
  | response q r _ ih => exact ih
  | readOk a b _ ih => exact ih
  | readErr a _ ih => exact congrArg (Diag.mk .rd a :: ·) ih
  | writeOk a b fx _ ih => exact ih
  | writeErr a b left _ ih => exact congrArg (Diag.mk .wr a :: ·) ih

/-- From `s` to `t` the parameters stay, the history grows by `es`, and the register space changes as `es` says. -/
structure Recorded (s : State) (es : List Event) (t : State) : Prop where
  params : t.params = s.params
  history : t.history = s.history ++ es
  trace : BusTrace s.params s.csr es t.csr

theorem Recorded.trans {s m t : State} {es es' : List Event} (h : Recorded s es m) (h' : Recorded m es' t) :
    Recorded s (es ++ es') t where
  params := h'.params.trans h.params
  history := by rw [h'.history, h.history, List.append_assoc]
  trace := h.trace.trans (h.params ▸ h'.trace)

/-- An ATTACH is in flight. -/
def Attaching (s : State) : Prop := ∃ q, s.active = some ⟨q, .attach⟩

/-- From `s` to `t` the handle keeps its endpoint, its diagnostic list grows by the diagnostic events of `es`, and
its identity cells change only while an ATTACH is in flight (R22, R27). -/
def HandleGrows (s : State) (es : List Event) (t : State) : Prop :=
  ∃ f, t.life = s.life.onHandle f ∧ ∀ h, (f h).diag = h.diag ++ diagEvents es ∧ (f h).endpoint = h.endpoint
    ∧ (¬ Attaching s → (f h).ident = h.ident)

/-- `h.diag` of a handle that exists before and after grows by the diagnostic events of `es` (R27). -/
def DiagGrows (s : State) (es : List Event) (t : State) : Prop :=
  ∀ h h', s.life.handle? = some h → t.life.handle? = some h' → h'.diag = h.diag ++ diagEvents es

theorem HandleGrows.diagGrows {s t : State} {es : List Event} (hg : HandleGrows s es t) : DiagGrows s es t := by
  obtain ⟨f, hl, hf⟩ := hg
  intro h h' hs ht
  simp only [hl, handle_onHandle, hs, Option.map_some, Option.some.injEq] at ht
  exact ht ▸ (hf h).1

theorem HandleGrows.handle_none {s t : State} {es : List Event} (hg : HandleGrows s es t)
    (ht : t.life.handle? = none) : s.life.handle? = none := by
  obtain ⟨f, hl, -⟩ := hg
  simpa [hl] using ht

theorem onHandle_id (l : Life) : l.onHandle (fun h => h) = l := by
  cases l <;> rfl

theorem HandleGrows.of_life_eq {s t : State} (hl : t.life = s.life) : HandleGrows s [] t :=
  ⟨fun h => h, by rw [hl, onHandle_id], fun h => ⟨(List.append_nil _).symm, rfl, fun _ => rfl⟩⟩

theorem HandleGrows.trans {s m t : State} {es es' : List Event} (h : HandleGrows s es m)
    (ha : Attaching m → Attaching s) (h' : HandleGrows m es' t) : HandleGrows s (es ++ es') t := by
  obtain ⟨f, hm, hf⟩ := h
  obtain ⟨g, ht, hg⟩ := h'
  refine ⟨fun h => g (f h), by rw [ht, hm, onHandle_onHandle], fun h => ?_⟩
  obtain ⟨hd, he, hi⟩ := hf h
  obtain ⟨hd', he', hi'⟩ := hg (f h)
  exact ⟨by simp [hd', hd], he'.trans he, fun hn => (hi' (mt ha hn)).trans (hi hn)⟩

/-- From `s` the machine gets to `t`, still inside the same step, by the events `es`, none of them a response. -/
structure Leads (s : State) (es : List Event) (t : State) : Prop extends Recorded s es t where
  grows : HandleGrows s es t
  silent : es.filter isResponse = []
  attaching : Attaching t → Attaching s

theorem Leads.trans {s m t : State} {es es' : List Event} (h : Leads s es m) (h' : Leads m es' t) :
    Leads s (es ++ es') t where
  toRecorded := h.toRecorded.trans h'.toRecorded
  grows := h.grows.trans h.attaching h'.grows
  silent := by rw [List.filter_append, h.silent, h'.silent]; rfl
  attaching := h.attaching ∘ h'.attaching

/-- A change of the sequencing state and the inputs only. -/
theorem Leads.of_eq {s t : State} (hp : t.params = s.params) (hh : t.history = s.history) (hc : t.csr = s.csr)
    (hl : t.life = s.life) (ha : t.active = s.active) : Leads s [] t where
  params := hp
  history := by simp [hh]
  trace := hc ▸ .nil _
  grows := .of_life_eq hl
  silent := rfl
  attaching h := by simpa [Attaching, ha] using h

/-- What happens to the handle in a step: it stays, DETACH destroys it, an ATTACH starts without one, or an ATTACH
in flight goes on (R24). -/
inductive LifeMoves (s : State) (es : List Event) (t : State) : Prop
  | kept (h : HandleGrows s es t)
  | detached (h : t.life = .detached)
  | created (h : s.life.handle? = none)
  | attaching (ha : Attaching s) (h : DiagGrows s es t)

theorem LifeMoves.diagGrows {s t : State} {es : List Event} (hm : LifeMoves s es t) : DiagGrows s es t := by
  cases hm with
  | kept h => exact h.diagGrows
  | detached h => intro _ _ _ ht; simp [h, Life.handle?] at ht
  | created h => intro _ _ hs; simp [h] at hs
  | attaching _ h => exact h

/-- What a whole step records: events of which at most one is a response, and what happens to the handle. -/
def StepRecord (s t : State) : Prop :=
  ∃ es, Recorded s es t ∧ (es.filter isResponse).length ≤ 1 ∧ LifeMoves s es t

theorem DiagGrows.after {s m t : State} {es es' : List Event} (h : HandleGrows s es m) (h' : DiagGrows m es' t) :
    DiagGrows s (es ++ es') t := by
  intro h₀ h₂ hs ht
  obtain ⟨f, hl, hf⟩ := h
  have hm : m.life.handle? = some (f h₀) := by simp [hl, hs]
  rw [h' _ _ hm ht, (hf h₀).1, diagEvents_append, List.append_assoc]

/-- A step may begin with any move that delivers no response. -/
theorem Leads.stepRecord {s m t : State} {es : List Event} (h : Leads s es m) (h' : StepRecord m t) :
    StepRecord s t := by
  obtain ⟨es', hr, hn, hl⟩ := h'
  refine ⟨es ++ es', h.toRecorded.trans hr, by simpa [h.silent] using hn, ?_⟩
  cases hl with
  | kept hg => exact .kept (h.grows.trans h.attaching hg)
  | detached hd => exact .detached hd
  | created hc => exact .created (h.grows.handle_none hc)
  | attaching ha hd => exact .attaching (h.attaching ha) (hd.after h.grows)

/-- A step may end without a response. -/
theorem Leads.rests {s t : State} {es : List Event} (h : Leads s es t) : StepRecord s t :=
  ⟨es, h.toRecorded, by simp [h.silent], .kept h.grows⟩

end Sys2Proof.Machine
end
section
namespace Sys2Proof.Machine

/-! ## One transaction -/

/-- The transport's next answer has been consumed. -/
structure AnswerUsed (s t : State) : Prop where
  bus : t.bus = s.dropAnswer.bus
  draws : t.draws = s.dropAnswer.draws

/-- From `s` to `t` one transaction is issued and answered, inside one guard hold. -/
structure Transaction (s : State) (es : List Event) (t : State) : Prop extends Leads s es t, AnswerUsed s t where
  active : t.active = s.active
  caller : t.caller = s.caller
  guard : t.life.handle?.map (·.guard) = s.life.handle?.map (·.guard)
  one : (busEvents es).length = 1

@[simp] theorem isBusEvent_diag (d : Diag) : isBusEvent (.diag d) = false := rfl
@[simp] theorem isResponse_diag (d : Diag) : isResponse (.diag d) = false := rfl

theorem diagEvents_of_busEvent {e : Event} (he : isBusEvent e = true) (es : List Event) :
    diagEvents (e :: es) = diagEvents es := by
  cases e with
  | read a r => rfl
  | write a b ok => rfl
  | diag d => cases he
  | response q r => cases he

theorem isResponse_of_busEvent {e : Event} (he : isBusEvent e = true) : isResponse e = false := by
  cases e with
  | read a r => rfl
  | write a b ok => rfl
  | diag d => rfl
  | response q r => cases he

/-- A transaction that succeeded. -/
theorem afterTxn_transaction (s : State) (x : Txn) {e : Event} {m : List Host.Cell} (he : isBusEvent e = true)
    (hm : BusTrace s.params s.csr [e] m) : Transaction s [e] (afterTxn s x e m) where
  params := rfl
  history := rfl
  trace := hm
  grows := ⟨fun h => h, (onHandle_id _).symm, fun h => by simp [diagEvents_of_busEvent he, diagEvents]⟩
  silent := by simp [isResponse_of_busEvent he]
  attaching h := h
  bus := rfl
  draws := rfl
  active := rfl
  caller := rfl
  guard := rfl
  one := by simp [busEvents, he]

/-- A transaction that failed, with its diagnostic event (R160, R161). -/
theorem afterTxn_addDiag_transaction (s : State) (x : Txn) {e : Event} {d : Diag} {m : List Host.Cell}
    (he : isBusEvent e = true) (hm : BusTrace s.params s.csr [e, .diag d] m) :
    Transaction s [e, .diag d] ((afterTxn s x e m).addDiag d) where
  params := rfl
  history := by simp [afterTxn]
  trace := hm
  grows := ⟨fun h => { h with diag := h.diag ++ [d] }, rfl,
    fun h => by simp [diagEvents_of_busEvent he, diagEvents]⟩
  silent := by simp [isResponse_of_busEvent he]
  attaching h := h
  bus := rfl
  draws := rfl
  active := rfl
  caller := rfl
  guard := by cases h : s.life <;> simp [afterTxn, h, Life.handle?]
  one := by simp [busEvents, he]

theorem readOk_transaction (s : State) (a b : Byte) :
    Transaction s [.read a (some b)] (afterTxn s (.rd a) (.read a (some b)) s.csr) :=
  afterTxn_transaction s _ rfl (.readOk a b (.nil _))

theorem readErr_transaction (s : State) (a : Byte) :
    Transaction s [.read a none, .diag ⟨.rd, a⟩]
      ((afterTxn s (.rd a) (.read a none) s.csr).addDiag ⟨.rd, a⟩) :=
  afterTxn_addDiag_transaction s _ rfl (.readErr a (.nil _))

theorem writeOk_transaction (s : State) (a b : Byte) (fx : List (Reg × Byte)) :
    Transaction s [.write a b true]
      (afterTxn s (.wr a b) (.write a b true) (landIn s.params s.csr a b fx)) :=
  afterTxn_transaction s _ rfl (.writeOk a b fx (.nil _))

theorem writeErr_transaction (s : State) (a b left : Byte) :
    Transaction s [.write a b false, .diag ⟨.wr, a⟩]
      ((afterTxn s (.wr a b) (.write a b false) (failIn s.params s.csr a left)).addDiag ⟨.wr, a⟩) :=
  afterTxn_addDiag_transaction s _ rfl (.writeErr a b left (.nil _))

/-- An unanswered transaction records nothing (R101). -/
theorem issue_leads (s : State) (x : Txn) : Leads s [] (s.issue x).dropAnswer :=
  .of_eq rfl rfl rfl rfl rfl

/-! ## How a step ends -/

theorem respond_stepRecord (s : State) (r : Result) : StepRecord s (s.respond r) :=
  ⟨[.response s.caller r], ⟨rfl, rfl, .response _ _ (.nil _)⟩, List.length_filter_le _ _,
    .kept ⟨fun h => h, (onHandle_id _).symm, fun h => by simp [diagEvents]⟩⟩

theorem release_leads (s : State) : Leads s [] s.release where
  params := rfl
  history := by simp
  trace := .nil _
  grows := ⟨fun h => { h with guard := .free }, rfl, fun h => by simp [diagEvents]⟩
  silent := rfl
  attaching := by simp [Attaching]

theorem finish_stepRecord (s : State) (r : Result) : StepRecord s (s.finish r) :=
  (release_leads s).stepRecord (respond_stepRecord _ r)

theorem detachBody_stepRecord (s : State) : StepRecord s (detachBody s) :=
  ⟨[.response s.caller .ok], ⟨rfl, rfl, .response _ _ (.nil _)⟩, List.length_filter_le _ _, .detached rfl⟩

theorem toAttached_handle (l : Life) : l.toAttached.handle? = l.handle? := by
  cases l <;> rfl

theorem bringupDone_stepRecord (s : State) (ha : Attaching s) : StepRecord s s.bringupDone := by
  refine ⟨[.response s.caller .ok], ⟨rfl, rfl, .response _ _ (.nil _)⟩, List.length_filter_le _ _, .attaching ha ?_⟩
  intro h h' hs ht
  simp only [State.bringupDone, State.respond_life, toAttached_handle, State.release_life, handle_onHandle, hs,
    Option.map_some, Option.some.injEq] at ht
  simp [← ht, diagEvents]

/-! ## The operations of a requester -/

theorem readOp_stepRecord (s : State) (a : Byte) (f : Byte → Result) : StepRecord s (s.readOp a f) := by
  obtain ⟨-, h⟩ | ⟨left, -, h⟩ | ⟨hw, fx, -, h⟩ := s.readOp_cases a f <;> rw [h]
  · exact (issue_leads s _).rests
  · exact (readErr_transaction s a).stepRecord (finish_stepRecord _ _)
  · exact (readOk_transaction s a _).stepRecord (finish_stepRecord _ _)

theorem writeOp_stepRecord (s : State) (a b : Byte) : StepRecord s (s.writeOp a b) := by
  obtain ⟨-, h⟩ | ⟨left, -, h⟩ | ⟨hw, fx, -, h⟩ := s.writeOp_cases a b <;> rw [h]
  · exact (issue_leads s _).rests
  · exact (writeErr_transaction s a b left).stepRecord (finish_stepRecord _ _)
  · exact (writeOk_transaction s a b fx).stepRecord (finish_stepRecord _ _)

theorem latch_leads (s : State) (b : Byte) : Leads s [] (s.latch b) :=
  .of_eq rfl rfl rfl rfl rfl

theorem rmwOp_stepRecord (s : State) (a : Byte) (i : BitIdx) (v : Bool) : StepRecord s (s.rmwOp a i v) := by
  cases hc : s.cur with
  | some c =>
    rw [s.rmwOp_latched a i v c hc]
    exact writeOp_stepRecord s a _
  | none =>
    obtain ⟨-, h⟩ | ⟨left, -, h⟩ | ⟨hw, fx, -, h⟩ := s.rmwOp_cases a i v hc <;> rw [h]
    · exact (issue_leads s _).rests
    · exact (readErr_transaction s a).stepRecord (finish_stepRecord _ _)
    · exact (readOk_transaction s a _).stepRecord ((latch_leads _ _).stepRecord (writeOp_stepRecord _ _ _))

/-- What an operation does from its `acquire` onward. -/
def bodyOf (i : Instr) (s : State) : State :=
  match i with
  | .rdreg a => rdregBody a s
  | .wrreg a b => wrregBody a b s
  | .getbit d => getbitBody d s
  | .setbit d v => setbitBody d v s
  | .getsig g => getsigBody g s
  | .setsig g v => setsigBody g v s
  | .attach => attachBody s
  | .detach => detachBody s

/-- The requester being served is `q`. -/
def State.serving (s : State) (q : Tag) : State := { s with caller := q }

theorem resume_eq (op : Op) (s : State) : resume op s = bodyOf op.instr (s.serving op.tag) := by
  obtain ⟨q, i⟩ := op
  cases i <;> rfl

/-- The body of an operation of a requester: one read, one write or a read-modify-write, with the transaction that it
has in flight; `nothing` for an identity signal (R162, R163, R182 to R185). -/
inductive BodyForm (i : Instr) (s : State) : Prop
  | read (a : Byte) (f : Byte → Result) (hb : bodyOf i s = s.readOp a f)
      (hx : ∀ c b, expectedTxn s.params i c b = some (.rd a))
  | write (a v : Byte) (hb : bodyOf i s = s.writeOp a v)
      (hx : ∀ c b, expectedTxn s.params i c b = some (.wr a v))
  | modify (a : Byte) (j : BitIdx) (v : Value) (hb : bodyOf i s = s.rmwOp a j (valueBit v))
      (hx : ∀ c b, expectedTxn s.params i c b = some (rmwTxn c a j v))
  | nothing (hb : bodyOf i s = s) (hx : ∀ c b, expectedTxn s.params i c b = none)

theorem bodyForm (i : Instr) (s : State) (ha : i ≠ .attach) (hd : i ≠ .detach) : BodyForm i s := by
  cases i with
  | rdreg a => exact .read a _ rfl fun _ _ => rfl
  | wrreg a b => exact .write a b rfl fun _ _ => rfl
  | getbit d => exact .read d.reg _ rfl fun _ _ => rfl
  | setbit d v => exact .modify d.reg d.bit v rfl fun _ _ => rfl
  | getsig g =>
    cases hk : sigKind s.params g with
    | bit r j =>
      exact .read (addrOf s.params r) _ (by simp only [bodyOf, getsigBody, hk]; rfl) (by simp [expectedTxn, hk])
    | byte r =>
      exact .read (addrOf s.params r) _ (by simp only [bodyOf, getsigBody, hk]; rfl) (by simp [expectedTxn, hk])
    | ident f => exact .nothing (by simp [bodyOf, getsigBody, hk]) (by simp [expectedTxn, hk])
  | setsig g v =>
    cases hk : sigKind s.params g with
    | bit r j =>
      exact .modify (addrOf s.params r) j v (by simp only [bodyOf, setsigBody, hk]; rfl) (by simp [expectedTxn, hk])
    | byte r =>
      exact .write (addrOf s.params r) (valueByte v) (by simp [bodyOf, setsigBody, hk]) (by simp [expectedTxn, hk])
    | ident f => exact .nothing (by simp [bodyOf, setsigBody, hk]) (by simp [expectedTxn, hk])
  | attach => exact absurd rfl ha
  | detach => exact absurd rfl hd

/-! ## The sequencer -/

/-- A step of the sequencer with a read stores into an identity cell (R212, R213). -/
theorem bringupStep_read {p : Params} {b : BStep} {a : Byte} (hx : bringupTxn p b = some (.rd a)) :
    ∃ store, ∀ s : State, s.params = p → bringupStep b s = endCapture store (s.xferRead a) := by
  cases b <;> simp only [bringupTxn, Option.some.injEq, Txn.rd.injEq, reduceCtorEq] at hx <;>
    exact ⟨_, fun s hs => by rw [← hx, ← hs]; rfl⟩

/-- A step of the sequencer with a write (R214). -/
theorem bringupStep_write {s : State} {b : BStep} {a v : Byte} (hx : bringupTxn s.params b = some (.wr a v)) :
    bringupStep b s = endBaseline (s.xferWrite a v) := by
  cases b <;> simp only [bringupTxn, Option.some.injEq, Txn.wr.injEq, reduceCtorEq] at hx <;>
    (obtain ⟨rfl, rfl⟩ := hx; rfl)

/-- A step of the sequencer without a transaction does nothing (R210). -/
theorem bringupStep_none (s : State) (b : BStep) (hx : bringupTxn s.params b = none) :
    bringupStep b s = (true, s) := by
  cases b with
  | s1Cap | done | failed => rfl
  | s2Rev | s3Day | s3Month | s3Year => cases hx
  | s4RstLo | s4RstHi | s4LpmLo | s4LpmHi | s4SelLo | s4SelHi => cases hx

/-- Capturing an identity byte is part of the read transaction of an ATTACH (R212, R213). -/
theorem Transaction.onIdent {s t : State} {es : List Event} (h : Transaction s es t) (ha : Attaching s)
    (g : Ident → Ident) : Transaction s es (t.onIdent g) := by
  obtain ⟨f, hl, hf⟩ := h.grows
  refine { h with grows := ⟨fun h => { f h with ident := g (f h).ident }, by simp [hl], fun h => ?_⟩, guard := ?_ }
  · obtain ⟨hd, he, -⟩ := hf h
    exact ⟨hd, he, fun hn => absurd ha hn⟩
  · rw [← h.guard]
    simp [Function.comp_def]

/-- Everything a step of the sequencer with a transaction can do while an ATTACH is in flight (R210, R215). -/
theorem bringupStep_cases (s : State) (b : BStep) (x : Txn) (hx : bringupTxn s.params b = some x)
    (ha : Attaching s) :
    (s.nextAnswer = .late ∧ bringupStep b s = (false, (s.issue x).dropAnswer))
    ∨ (isLate s.nextAnswer = false ∧ ∃ es t, bringupStep b s = (true, t) ∧ Transaction s es t) := by
  cases x with
  | rd a =>
    obtain ⟨store, hstore⟩ := bringupStep_read hx
    have hb := hstore s rfl
    cases h : s.nextAnswer with
    | late => exact .inl ⟨rfl, by rw [hb, s.xferRead_late a h]; rfl⟩
    | err left =>
      exact .inr ⟨rfl, _, _, by rw [hb, s.xferRead_err a left h]; rfl, readErr_transaction s a⟩
    | ok hw fx =>
      exact .inr ⟨rfl, _, _, by rw [hb, s.xferRead_ok a hw fx h]; rfl, (readOk_transaction s a _).onIdent ha _⟩
  | wr a v =>
    have hb := bringupStep_write hx
    cases h : s.nextAnswer with
    | late => exact .inl ⟨rfl, by rw [hb, s.xferWrite_late a v h]; rfl⟩
    | err left =>
      exact .inr ⟨rfl, _, _, by rw [hb, s.xferWrite_err a v left h]; rfl, writeErr_transaction s a v left⟩
    | ok hw fx =>
      exact .inr ⟨rfl, _, _, by rw [hb, s.xferWrite_ok a v hw fx h]; rfl, writeOk_transaction s a v fx⟩

/-- The sequencer's pointer set to a step (R26). -/
def State.atStep (s : State) (b : BStep) : State := { s with bstep := some b }

theorem atStep_leads (s : State) (b : BStep) : Leads s [] (s.atStep b) :=
  .of_eq rfl rfl rfl rfl rfl

/-- The sequencer takes its next step and, if it was answered, the rest (R210). -/
theorem runBringup_cons (b : BStep) (rest : List BStep) (s : State) :
    runBringup (b :: rest) s =
      if (bringupStep b (s.atStep b)).1 then runBringup rest (bringupStep b (s.atStep b)).2
      else (bringupStep b (s.atStep b)).2 := by
  rw [runBringup, State.atStep]
  split <;> simp [*]

theorem runBringup_stepRecord (l : List BStep) (s : State) (ha : Attaching s) : StepRecord s (runBringup l s) := by
  induction l generalizing s with
  | nil => exact bringupDone_stepRecord s ha
  | cons b rest ih =>
    refine (atStep_leads s b).stepRecord ?_
    rw [runBringup_cons]
    cases hx : bringupTxn (s.atStep b).params b with
    | none =>
      rw [bringupStep_none _ b hx]
      exact ih (s.atStep b) ha
    | some x =>
      obtain ⟨-, h⟩ | ⟨-, es, t, h, ht⟩ := bringupStep_cases (s.atStep b) b x hx ha <;> rw [h]
      · exact (issue_leads _ x).rests
      · exact ht.stepRecord (ih t ⟨ha.choose, ht.active.trans ha.choose_spec⟩)

theorem dropCap_leads (s : State) : Leads s [] s.dropCap := .of_eq rfl rfl rfl rfl rfl

theorem acquire_leads (s : State) (i : Instr) (h : i = .attach → Attaching s) : Leads s [] (s.acquire i) where
  params := rfl
  history := by simp
  trace := .nil _
  grows := ⟨fun h => { h with guard := .held s.caller }, rfl, fun h => by simp [diagEvents]⟩
  silent := rfl
  attaching := by rintro ⟨q, hq⟩; cases hq; exact h rfl

theorem askCap_stepRecord (s : State) (ha : Attaching s) : StepRecord s (askCap s) := by
  refine (dropCap_leads s).stepRecord ?_
  obtain ⟨-, h⟩ | ⟨-, h⟩ | ⟨-, h⟩ := askCap_cases s <;> rw [h]
  · exact (Leads.of_eq rfl rfl rfl rfl rfl).rests
  · exact (acquire_leads s.dropCap .attach fun _ => ha).stepRecord (runBringup_stepRecord _ _ ⟨_, rfl⟩)
  · exact ⟨[.response s.caller (.fault .capabilityUnavailable)], ⟨rfl, rfl, .response _ _ (.nil _)⟩,
      List.length_filter_le _ _, .attaching ha fun _ _ _ ht => by cases ht⟩

theorem attachBody_stepRecord (s : State) (ha : Attaching s) : StepRecord s (attachBody s) := by
  unfold attachBody
  split
  · exact askCap_stepRecord s ha
  · exact runBringup_stepRecord _ s ha
  · exact (Leads.of_eq rfl rfl rfl rfl rfl).rests

theorem bodyOf_stepRecord (i : Instr) (s : State) (ha : i = .attach → Attaching s) : StepRecord s (bodyOf i s) := by
  by_cases h : i = .attach
  · subst h
    exact attachBody_stepRecord s (ha rfl)
  · by_cases hd : i = .detach
    · subst hd
      exact detachBody_stepRecord s
    · cases bodyForm i s h hd with
      | read a f hb _ => exact hb ▸ readOp_stepRecord s a f
      | write a v hb _ => exact hb ▸ writeOp_stepRecord s a v
      | modify a j v hb _ => exact hb ▸ rmwOp_stepRecord s a j _
      | nothing hb _ => exact hb.symm ▸ (Leads.of_eq rfl rfl rfl rfl rfl).rests

end Sys2Proof.Machine
end
section
namespace Sys2Proof.Machine

/-! ## What `exec` and `step` can do -/

/-- In ATTACHED an operation that passes its checks goes to the guard (R168). -/
theorem exec_of_reachesBus (s : State) (h : Handle) (i : Instr) (hl : s.life = .attached h)
    (hr : reachesBus s.params i = true) : exec i s = .next (s.underGuard h i (bodyOf i)) := by
  cases i with
  | rdreg a => exact s.accepted_attached h _ hl
  | wrreg a b => exact s.accepted_attached h _ hl
  | getbit d => exact s.accepted_attached h _ hl
  | setbit d v =>
    obtain ⟨hv, hw⟩ : inBitDomain v = true ∧ d.writable = true := by simpa [reachesBus] using hr
    simp only [exec, execSetbit, s.accepted_attached h _ hl, hv, hw]
    rfl
  | getsig g =>
    simp only [exec, execGetsig, s.accepted_attached h _ hl]
    cases hk : sigKind s.params g with
    | bit r j => rfl
    | byte r => rfl
    | ident f => simp [reachesBus, hk] at hr
  | setsig g v =>
    obtain ⟨hv, hw⟩ : inSigDomain s.params g v = true ∧ sigWritable s.params g = true := by
      simpa [reachesBus] using hr
    simp only [exec, execSetsig, s.accepted_attached h _ hl, hv, hw]
    rfl
  | attach => cases hr
  | detach => cases hr

/-- In ATTACHED an operation that does not pass its checks, and an identity read, is answered at once (R184, R186,
R289). -/
theorem exec_of_not_reachesBus (s : State) (h : Handle) (i : Instr) (hl : s.life = .attached h)
    (hr : reachesBus s.params i = false) (ha : i ≠ .attach) (hd : i ≠ .detach) :
    ∃ r, exec i s = .next (s.respond r) := by
  cases i with
  | rdreg a => cases hr
  | wrreg a b => cases hr
  | getbit d => cases hr
  | setbit d v =>
    simp only [exec, execSetbit, s.accepted_attached h _ hl]
    cases hv : inBitDomain v with
    | false => exact ⟨_, rfl⟩
    | true =>
      have hw : d.writable = false := by simpa [reachesBus, hv] using hr
      exact ⟨.fault .notWritable, by simp [hw]⟩
  | getsig g =>
    simp only [exec, execGetsig, s.accepted_attached h _ hl]
    cases hk : sigKind s.params g with
    | bit r j => simp [reachesBus, hk] at hr
    | byte r => simp [reachesBus, hk] at hr
    | ident f => exact ⟨_, rfl⟩
  | setsig g v =>
    simp only [exec, execSetsig, s.accepted_attached h _ hl]
    cases hv : inSigDomain s.params g v with
    | false => exact ⟨_, rfl⟩
    | true =>
      have hw : sigWritable s.params g = false := by simpa [reachesBus, hv] using hr
      exact ⟨.fault .notWritable, by simp [hw]⟩
  | attach => exact absurd rfl ha
  | detach => exact absurd rfl hd

/-- In ATTACHED a DETACH behind no waiting request goes to the guard (R218). -/
theorem exec_detach_of_waiting_nil (s : State) (h : Handle) (hl : s.life = .attached h) (hw : s.waiting = []) :
    exec .detach s = .next (s.underGuard h .detach (bodyOf .detach)) := by
  simp only [exec, execDetach, hl, hw]
  rfl

/-- ATTACH runs where no handle exists (R24, R217). -/
theorem exec_attach_of_handle_none (s : State) (hl : s.life.handle? = none) :
    exec .attach s = .next (attachRun s) := by
  cases hs : s.life with
  | absent | detached => simp [exec, execAttach, hs]
  | bringup h | attached h => simp [hs, Life.handle?] at hl

/-- ATTACH has no step where a handle exists (R24, R217). -/
theorem exec_attach_of_handle_some (s : State) (h : Handle) (hl : s.life.handle? = some h) :
    exec .attach s = .refused .notAccepted := by
  cases hs : s.life with
  | absent | detached => simp [hs, Life.handle?] at hl
  | bringup h | attached h => simp [exec, execAttach, hs]

/-- Operations other than ATTACH have no step outside ATTACHED (R24). -/
theorem exec_of_not_attached (s : State) (i : Instr) (hi : i ≠ .attach) (hl : ∀ h, s.life ≠ .attached h) :
    exec i s = .refused .notAccepted := by
  have hacc (k : Handle → State) : s.accepted k = .refused .notAccepted := by
    cases hs : s.life with
    | attached h => exact absurd hs (hl h)
    | absent | bringup h | detached => simp [State.accepted, hs]
  cases i with
  | rdreg | wrreg | getbit | setbit | getsig | setsig => exact hacc _
  | attach => exact absurd rfl hi
  | detach =>
    cases hs : s.life with
    | attached h => exact absurd hs (hl h)
    | absent | bringup h | detached => simp [exec, execDetach, hs]

/-- Everything an operation that is taken up can do: ATTACH starts without a handle; in ATTACHED the others are
answered before the guard, wait for it, or take it and run (R23, R24, R168, R186). -/
inductive Executed (i : Instr) (s : State) : State → Prop
  | attaches (hi : i = .attach) (hl : s.life.handle? = none) : Executed i s (attachRun s)
  | answered (h : Handle) (hl : s.life = .attached h) (r : Result) : Executed i s (s.respond r)
  | waits (h : Handle) (hl : s.life = .attached h) (q : Tag) (hg : h.guard = .held q) :
      Executed i s (s.enqueue i)
  | runs (h : Handle) (hl : s.life = .attached h) (hg : h.guard = .free)
      (hi : reachesBus s.params i = true ∨ i = .detach) : Executed i s (bodyOf i (s.acquire i))

/-- An operation that goes to the guard waits for it or runs. -/
theorem executed_underGuard {i : Instr} {s : State} {h : Handle} (hl : s.life = .attached h)
    (hi : reachesBus s.params i = true ∨ i = .detach) : Executed i s (s.underGuard h i (bodyOf i)) := by
  cases hg : h.guard with
  | free => rw [s.underGuard_free h i _ hg]; exact .runs h hl hg hi
  | held q => rw [s.underGuard_held h i _ q hg]; exact .waits h hl q hg

theorem exec_executed {i : Instr} {s t : State} (ht : exec i s = .next t) : Executed i s t := by
  by_cases ha : i = .attach
  · subst ha
    cases hn : s.life.handle? with
    | none =>
      rw [exec_attach_of_handle_none s hn, Host.Outcome.next.injEq] at ht
      exact ht ▸ .attaches rfl hn
    | some h => simp [exec_attach_of_handle_some s h hn] at ht
  · by_cases hl : ∃ h, s.life = .attached h
    · obtain ⟨h, hl⟩ := hl
      by_cases hd : i = .detach
      · subst hd
        by_cases hw : s.waiting = []
        · rw [exec_detach_of_waiting_nil s h hl hw, Host.Outcome.next.injEq] at ht
          exact ht ▸ executed_underGuard hl (.inr rfl)
        · simp [exec, execDetach, hl, hw] at ht
      · cases hr : reachesBus s.params i with
        | true =>
          rw [exec_of_reachesBus s h i hl hr, Host.Outcome.next.injEq] at ht
          exact ht ▸ executed_underGuard hl (.inl hr)
        | false =>
          obtain ⟨r, he⟩ := exec_of_not_reachesBus s h i hl hr ha hd
          rw [he, Host.Outcome.next.injEq] at ht
          exact ht ▸ .answered h hl r
    · rw [exec_of_not_attached s i ha (not_exists.mp hl)] at ht
      cases ht

/-- `t` differs from `s` at most in what waits, the port, the inputs and the tag being served. -/
structure SameCore (s t : State) : Prop where
  params : t.params = s.params
  life : t.life = s.life
  cur : t.cur = s.cur
  bstep : t.bstep = s.bstep
  phase : t.phase = s.phase
  active : t.active = s.active
  txn : t.txn = s.txn
  csr : t.csr = s.csr
  history : t.history = s.history

theorem SameCore.of_eq (s : State) (w : List Op) (p : List Request) (b : List BusAnswer) (e : List Endpoint)
    (c : List CapAnswer) (g : List Nat) (n : Nat) (q : Tag) :
    SameCore s
      { s with waiting := w, port := p, bus := b, bindings := e, caps := c, grants := g, draws := n, caller := q } :=
  ⟨rfl, rfl, rfl, rfl, rfl, rfl, rfl, rfl, rfl⟩

theorem SameCore.refl (s : State) : SameCore s s := ⟨rfl, rfl, rfl, rfl, rfl, rfl, rfl, rfl, rfl⟩

theorem SameCore.trans {s t u : State} (h : SameCore s t) (h' : SameCore t u) : SameCore s u where
  params := h'.params.trans h.params
  life := h'.life.trans h.life
  cur := h'.cur.trans h.cur
  bstep := h'.bstep.trans h.bstep
  phase := h'.phase.trans h.phase
  active := h'.active.trans h.active
  txn := h'.txn.trans h.txn
  csr := h'.csr.trans h.csr
  history := h'.history.trans h.history

theorem SameCore.dropSilence (s : State) : SameCore s s.dropSilence := by
  constructor <;> simp

theorem SameCore.leads {s t : State} (h : SameCore s t) : Leads s [] t :=
  .of_eq h.params h.history h.csr h.life h.active

/-- Everything a step can do: the machine waits, serves a valid or an invalid word or a request that waited, or the
operation in flight goes on (R20, R23, R101). -/
inductive StepKind (s : State) : State → Prop
  | rests (t : State) (hu : SameCore s t) : StepKind s t
  | illegal (u : State) (hu : SameCore s u) : StepKind s (u.respond .illegalRequest)
  | serves (u t : State) (hu : SameCore s u) (i : Instr) (ht : Executed i u t) : StepKind s t
  | resumes (op : Op) (ho : s.active = some op) : StepKind s (bodyOf op.instr (s.serving op.tag))

/-- Taking the next request from the port. -/
theorem serveNext_kind {s u t : State} (hu : SameCore s u) (ht : serveNext u = .next t) : StepKind s t := by
  unfold serveNext at ht
  split at ht
  · rw [Host.Outcome.next.injEq] at ht
    exact ht ▸ .rests u hu
  · rename_i r rest _
    have hv : SameCore s { u with port := rest, caller := r.tag } :=
      hu.trans (.of_eq u _ _ _ _ _ _ _ _)
    unfold serveRequest at ht
    split at ht
    · exact .serves _ t hv _ (exec_executed ht)
    · obtain ⟨h, -, rfl⟩ := State.accepted_next _ _ _ ht
      exact .illegal _ hv

theorem grantNext_kind {s t : State} (ht : grantNext s = .next t) : StepKind s t := by
  unfold grantNext at ht
  split at ht
  · exact .serves _ t (.of_eq s _ _ _ _ _ _ _ _) _ (exec_executed ht)
  · exact serveNext_kind (.of_eq s _ _ _ _ _ _ _ _) ht

theorem step_kind {s t : State} (ht : step s = .next t) : StepKind s t := by
  unfold step advance at ht
  split at ht
  · rename_i op ho
    unfold stepBusy at ht
    split at ht
    · split at ht
      · rw [Host.Outcome.next.injEq] at ht
        exact ht ▸ .rests _ (.dropSilence s)
      · exact serveNext_kind (.dropSilence s) ht
    · rw [Host.Outcome.next.injEq, resume_eq] at ht
      exact ht ▸ .resumes op ho
  · unfold stepFree at ht
    split at ht
    · exact serveNext_kind (.refl s) ht
    · exact grantNext_kind ht

/-! ## What every step records -/

/-- Waiting for the guard records nothing (R168). -/
theorem enqueue_leads (s : State) (i : Instr) : Leads s [] (s.enqueue i) :=
  .of_eq rfl rfl rfl rfl rfl

theorem serving_leads (s : State) (q : Tag) : Leads s [] (s.serving q) :=
  .of_eq rfl rfl rfl rfl rfl

/-- An ATTACH that starts finds no handle and ends in any lifecycle state. -/
theorem attachRun_stepRecord (s : State) (hl : s.life.handle? = none) : StepRecord s (attachRun s) := by
  obtain ⟨es, hr, hn, -⟩ := askCap_stepRecord s.beginAttach ⟨s.caller, rfl⟩
  exact ⟨es, ⟨hr.params, hr.history, hr.trace⟩, hn, .created hl⟩

theorem Executed.stepRecord {i : Instr} {s t : State} (h : Executed i s t) : StepRecord s t := by
  cases h with
  | attaches hi hl => exact attachRun_stepRecord s hl
  | answered h hl r => exact respond_stepRecord s r
  | waits h hl q hg => exact (enqueue_leads s i).rests
  | runs h hl hg hi =>
    have ha : i ≠ .attach := by rintro rfl; simp [reachesBus] at hi
    exact (acquire_leads s i fun h => absurd h ha).stepRecord (bodyOf_stepRecord i _ fun h => absurd h ha)

/-- Every step records its events, at most one response among them, and accounts for the register space and the
handle. -/
theorem step_stepRecord {s t : State} (ht : step s = .next t) : StepRecord s t := by
  cases step_kind ht with
  | rests _ hu => exact hu.leads.rests
  | illegal u hu => exact hu.leads.stepRecord (respond_stepRecord u _)
  | serves u _ hu i he => exact hu.leads.stepRecord he.stepRecord
  | resumes op ho =>
    refine (serving_leads s op.tag).stepRecord (bodyOf_stepRecord op.instr _ fun hi => ⟨op.tag, ?_⟩)
    rw [← hi]
    exact ho

/-! ## The guard discipline -/

theorem GuardOk.congr {s t : State} (hs : GuardOk s) (hp : t.params = s.params) (hl : t.life = s.life)
    (hc : t.cur = s.cur) (hb : t.bstep = s.bstep) (hph : t.phase = s.phase) (ha : t.active = s.active)
    (hx : t.txn = s.txn) : GuardOk t := by
  simpa only [GuardOk, QuietOk, BusyOk, InFlightOk, CapWaitOk, hp, hl, hc, hb, hph, ha, hx] using hs

theorem SameCore.guardOk {s t : State} (h : SameCore s t) (hs : GuardOk s) : GuardOk t :=
  hs.congr h.params h.life h.cur h.bstep h.phase h.active h.txn

/-- Operation `op` is active and its requester holds the guard; BRINGUP lasts exactly as long as an ATTACH (R23,
R216). -/
structure Holding (s : State) (op : Op) : Prop where
  active : s.active = some op
  guard : s.life.handle?.map (·.guard) = some (.held op.tag)
  bringup : s.life.isBringup = true ↔ op.instr = .attach

theorem InFlightOk.holding {s : State} {op : Op} (h : InFlightOk s op) (ha : s.active = some op) :
    Holding s op := by
  obtain ⟨⟨h₀, hl, hg⟩, -, hb⟩ := h
  exact ⟨ha, by simp [hl, hg], hb⟩

theorem Holding.guardOk_issue {s : State} {op : Op} {x : Txn} (h : Holding s op)
    (hx : expectedTxn s.params op.instr s.cur s.bstep = some x) : GuardOk (s.issue x).dropAnswer := by
  obtain ⟨h₀, hl, hg⟩ := Option.map_eq_some_iff.mp h.guard
  simp only [GuardOk, State.dropAnswer_active, State.issue_active, h.active]
  exact .inl ⟨⟨h₀, hl, hg⟩, ⟨x, rfl, rfl, hx⟩, h.bringup⟩

/-- A guarded operation that ends outside BRINGUP leaves nothing in flight and the guard free (R168). -/
theorem guardOk_finish {s : State} (r : Result) (hb : s.life.isBringup = false) : GuardOk (s.finish r) := by
  refine ⟨rfl, rfl, rfl, by simpa using hb, fun h hh => ?_⟩
  simp only [State.finish_life, handle_onHandle, Option.map_eq_some_iff] at hh
  obtain ⟨_, -, rfl⟩ := hh
  rfl

theorem Transaction.isBringup {s t : State} {es : List Event} (h : Transaction s es t) :
    t.life.isBringup = s.life.isBringup := by
  obtain ⟨f, hl, -⟩ := h.grows
  simp [hl]

theorem Transaction.holding {s t : State} {es : List Event} {op : Op} (h : Transaction s es t)
    (hs : Holding s op) : Holding t op :=
  ⟨h.active.trans hs.active, h.guard.trans hs.guard, by rw [h.isBringup, hs.bringup]⟩

theorem Transaction.guardOk_finish {s m : State} {es : List Event} (h : Transaction s es m) (r : Result)
    (hb : s.life.isBringup = false) : GuardOk (m.finish r) :=
  Machine.guardOk_finish r (h.isBringup.trans hb)

theorem readOp_guardOk {s : State} {op : Op} {a : Byte} (f : Byte → Result) (hs : Holding s op)
    (hb : s.life.isBringup = false) (hx : expectedTxn s.params op.instr s.cur s.bstep = some (.rd a)) :
    GuardOk (s.readOp a f) := by
  obtain ⟨-, h⟩ | ⟨left, -, h⟩ | ⟨hw, fx, -, h⟩ := s.readOp_cases a f <;> rw [h]
  · exact hs.guardOk_issue hx
  · exact (readErr_transaction s a).guardOk_finish _ hb
  · exact (readOk_transaction s a _).guardOk_finish _ hb

theorem writeOp_guardOk {s : State} {op : Op} {a b : Byte} (hs : Holding s op)
    (hb : s.life.isBringup = false) (hx : expectedTxn s.params op.instr s.cur s.bstep = some (.wr a b)) :
    GuardOk (s.writeOp a b) := by
  obtain ⟨-, h⟩ | ⟨left, -, h⟩ | ⟨hw, fx, -, h⟩ := s.writeOp_cases a b <;> rw [h]
  · exact hs.guardOk_issue hx
  · exact (writeErr_transaction s a b left).guardOk_finish _ hb
  · exact (writeOk_transaction s a b fx).guardOk_finish _ hb

theorem rmwOp_guardOk {s : State} {op : Op} {a : Byte} {j : BitIdx} {v : Value} (hs : Holding s op)
    (hb : s.life.isBringup = false)
    (hx : ∀ c b, expectedTxn s.params op.instr c b = some (rmwTxn c a j v)) :
    GuardOk (s.rmwOp a j (valueBit v)) := by
  cases hc : s.cur with
  | some c =>
    rw [s.rmwOp_latched a j _ c hc]
    exact writeOp_guardOk hs hb (by rw [hx, hc]; rfl)
  | none =>
    obtain ⟨-, h⟩ | ⟨left, -, h⟩ | ⟨hw, fx, -, h⟩ := s.rmwOp_cases a j (valueBit v) hc <;> rw [h]
    · exact hs.guardOk_issue (by rw [hx, hc]; rfl)
    · exact (readErr_transaction s a).guardOk_finish _ hb
    · have ht := readOk_transaction s a (s.readByte a hw)
      exact writeOp_guardOk (op := op) ⟨ht.active.trans hs.active, ht.guard.trans hs.guard, hs.bringup⟩ hb (hx _ _)

/-- An operation of a requester keeps the guard discipline from its `acquire` onward. -/
theorem bodyOf_guardOk {s : State} {op : Op} (hs : Holding s op) (ha : op.instr ≠ .attach)
    (hd : op.instr ≠ .detach) (hx : expectedTxn s.params op.instr s.cur s.bstep ≠ none) :
    GuardOk (bodyOf op.instr s) := by
  have hb : s.life.isBringup = false := by simpa using mt hs.bringup.mp ha
  cases bodyForm op.instr s ha hd with
  | read a f hbody hx' => exact hbody ▸ readOp_guardOk f hs hb (hx' _ _)
  | write a v hbody hx' => exact hbody ▸ writeOp_guardOk hs hb (hx' _ _)
  | modify a j v hbody hx' => exact hbody ▸ rmwOp_guardOk hs hb hx'
  | nothing _ hx' => exact absurd (hx' _ _) hx

theorem detachBody_guardOk (s : State) : GuardOk (detachBody s) :=
  ⟨rfl, rfl, rfl, rfl, nofun⟩

theorem bringupDone_guardOk (s : State) : GuardOk s.bringupDone := by
  have hb : s.bringupDone.life = (s.life.onHandle fun h => { h with guard := .free }).toAttached := rfl
  refine ⟨rfl, rfl, rfl, ?_, fun h hh => ?_⟩
  · rw [hb]
    cases s.life <;> rfl
  · rw [hb, toAttached_handle, handle_onHandle, Option.map_eq_some_iff] at hh
    obtain ⟨_, -, rfl⟩ := hh
    rfl

/-- Each step of the order of R210 has its transaction. -/
theorem bringupTxn_isSome (p : Params) {b : BStep} (hb : b ∈ bringupOrder) : ∃ x, bringupTxn p b = some x := by
  simp only [bringupOrder, List.mem_cons, List.not_mem_nil, or_false] at hb
  rcases hb with rfl | rfl | rfl | rfl | rfl | rfl | rfl | rfl | rfl | rfl <;> exact ⟨_, rfl⟩

theorem Holding.atStep {s : State} {op : Op} (h : Holding s op) (b : BStep) : Holding (s.atStep b) op :=
  ⟨h.active, h.guard, h.bringup⟩

theorem Holding.attaching {s : State} {q : Tag} (h : Holding s ⟨q, .attach⟩) : Attaching s :=
  ⟨q, h.active⟩

theorem runBringup_guardOk {l : List BStep} {s : State} {q : Tag} (hl : ∀ b ∈ l, b ∈ bringupOrder)
    (hs : Holding s ⟨q, .attach⟩) : GuardOk (runBringup l s) := by
  induction l generalizing s with
  | nil => exact bringupDone_guardOk s
  | cons b rest ih =>
    rw [List.forall_mem_cons] at hl
    obtain ⟨x, hx⟩ := bringupTxn_isSome s.params hl.1
    rw [runBringup_cons]
    have hu := hs.atStep b
    obtain ⟨-, h⟩ | ⟨-, es, t, h, ht⟩ := bringupStep_cases (s.atStep b) b x hx hu.attaching <;> rw [h]
    · exact hu.guardOk_issue hx
    · exact ih hl.2 (ht.holding hu)

theorem askCap_guardOk {s : State} {op : Op} (ha : s.active = some op)
    (hs : CapWaitOk s op) : GuardOk (askCap s) := by
  have ⟨hi, hb, hx, hc, hph, h, hl, hg⟩ := hs
  obtain ⟨-, h'⟩ | ⟨-, h'⟩ | ⟨-, h'⟩ := askCap_cases s <;> rw [h']
  · have hs' : GuardOk s := by simpa only [GuardOk, ha] using .inr hs
    exact hs'.congr rfl rfl rfl rfl rfl rfl rfl
  · exact runBringup_guardOk (fun _ hb => hb) ⟨rfl, by simp [hl, Life.handle?], by simp [hl, Life.isBringup]⟩
  · exact ⟨hx, rfl, hc, rfl, nofun⟩

/-- An ATTACH that rested at a transaction goes on with the sequencer from there (R210). -/
theorem attachBody_of_txn {s : State} {b : BStep} {p : Params} {x : Txn} (hb : s.bstep = some b)
    (hx : bringupTxn p b = some x) : attachBody s = runBringup (bringupFrom b) s := by
  unfold attachBody
  rw [hb]
  cases b with
  | s1Cap => cases hx
  | s2Rev | s3Day | s3Month | s3Year | done | failed => rfl
  | s4RstLo | s4RstHi | s4LpmLo | s4LpmHi | s4SelLo | s4SelHi => rfl

/-- An ATTACH that rested at the capability call asks again (R20). -/
theorem attachBody_of_cap {s : State} (hb : s.bstep = some .s1Cap) : attachBody s = askCap s := by
  unfold attachBody
  rw [hb]

/-- An ATTACH that goes on keeps the guard discipline. -/
theorem attachBody_guardOk {s : State} {op : Op} (ha : s.active = some op) (hi : op.instr = .attach)
    (hs : BusyOk s op) : GuardOk (attachBody s) := by
  obtain ⟨q, i⟩ := op
  subst hi
  cases hs with
  | inl hf =>
    have ⟨_, ⟨x, _, _, hx⟩, _⟩ := hf
    obtain ⟨b, hb, hbx⟩ := Option.bind_eq_some_iff.mp hx
    rw [attachBody_of_txn hb hbx]
    exact runBringup_guardOk (fun c hc => (List.dropWhile_suffix _).subset hc) (hf.holding ha)
  | inr hw =>
    have ⟨_, hb, _⟩ := hw
    rw [attachBody_of_cap hb]
    exact askCap_guardOk ha hw

/-- Only the identity signals are of the identity kind (R126). -/
theorem eq_ident_of_sigKind {p : Params} {g : Signal} {f : IdentField} (hk : sigKind p g = .ident f) :
    g = .ident f := by
  cases g <;> simp_all [sigKind]

/-- An operation that goes to the bus has a transaction to put in flight. -/
theorem expectedTxn_of_reachesBus {p : Params} {i : Instr} (hi : reachesBus p i = true) (c : Option Byte)
    (b : Option BStep) : expectedTxn p i c b ≠ none := by
  cases i with
  | getsig g =>
    cases hk : sigKind p g <;> simp [reachesBus, expectedTxn, hk] at hi ⊢
  | setsig g v =>
    cases hk : sigKind p g with
    | ident f =>
      rw [eq_ident_of_sigKind hk] at hi
      simp [reachesBus, sigWritable] at hi
    | bit r j => simp [expectedTxn, hk]
    | byte r => simp [expectedTxn, hk]
  | rdreg | wrreg | getbit | setbit => simp [expectedTxn]
  | attach | detach => cases hi

theorem acquire_holding {s : State} {h : Handle} {i : Instr} (hl : s.life = .attached h) (hi : i ≠ .attach) :
    Holding (s.acquire i) ⟨s.caller, i⟩ :=
  ⟨rfl, by simp [hl, Life.handle?], by simp [hl, Life.isBringup, hi]⟩

theorem GuardOk.quiet {s : State} (hs : GuardOk s) (ha : s.active = none) : QuietOk s := by
  simpa only [GuardOk, ha] using hs

theorem GuardOk.busy {s : State} {op : Op} (hs : GuardOk s) (ha : s.active = some op) : BusyOk s op := by
  simpa only [GuardOk, ha] using hs

/-- While an operation is active there is a handle. -/
theorem BusyOk.handle_some {s : State} {op : Op} (hs : BusyOk s op) : s.life.handle? ≠ none := by
  rcases hs with ⟨⟨h, hl, -⟩, -⟩ | ⟨-, -, -, -, -, h, hl, -⟩
  · simp [hl]
  · simp [hl, Life.handle?]

theorem attachRun_guardOk {s : State} (hs : GuardOk s) (hl : s.life.handle? = none) : GuardOk (attachRun s) := by
  cases ha : s.active with
  | some op => exact absurd hl (hs.busy ha).handle_some
  | none =>
    obtain ⟨hx, -, hc, -, -⟩ := hs.quiet ha
    exact askCap_guardOk (op := ⟨s.caller, .attach⟩) rfl ⟨rfl, rfl, hx, hc, rfl, _, rfl, rfl⟩

theorem Executed.guardOk {i : Instr} {s t : State} (he : Executed i s t) (hs : GuardOk s) : GuardOk t := by
  cases he with
  | attaches hi hl => exact attachRun_guardOk hs hl
  | answered h hl r => exact hs.congr rfl rfl rfl rfl rfl rfl rfl
  | waits h hl q hg => exact hs.congr rfl rfl rfl rfl rfl rfl rfl
  | runs h hl hg hi =>
    rcases hi with hi | rfl
    · have ha : i ≠ .attach := by rintro rfl; cases hi
      have hd : i ≠ .detach := by rintro rfl; cases hi
      exact bodyOf_guardOk (op := ⟨s.caller, i⟩) (acquire_holding hl ha) ha hd (expectedTxn_of_reachesBus hi _ _)
    · exact detachBody_guardOk _

/-- The operation in flight goes on. -/
theorem resumes_guardOk {s : State} {op : Op} (hs : GuardOk s) (ho : s.active = some op) :
    GuardOk (bodyOf op.instr (s.serving op.tag)) := by
  have hb : BusyOk (s.serving op.tag) op := hs.busy ho
  by_cases ha : op.instr = .attach
  · rw [ha]
    exact attachBody_guardOk ho ha hb
  · rcases hb with hf | hw
    · have hx : expectedTxn s.params op.instr s.cur s.bstep ≠ none := by
        obtain ⟨-, ⟨x, -, -, hx⟩, -⟩ := hf
        exact hx ▸ Option.some_ne_none x
      have hd : op.instr ≠ .detach := fun hd => hx (by rw [hd]; rfl)
      exact bodyOf_guardOk (hf.holding ho) ha hd hx
    · exact absurd hw.1 ha

/-- With the guard discipline, an attached handle means that no ATTACH is in flight (R216). -/
theorem GuardOk.not_attaching {s : State} {h : Handle} (hs : GuardOk s) (hl : s.life = .attached h) :
    ¬ Attaching s := by
  rintro ⟨q, ha⟩
  rcases hs.busy ha with ⟨-, -, hb⟩ | ⟨-, -, -, -, -, h', hl', -⟩
  · simp [hl, Life.isBringup] at hb
  · simp [hl] at hl'

/-! ## The invariants of the state -/

/-- Settles O52: the register space changes along transactions only, and each keeps its canonical form. -/
theorem stepKeepsRegisterSpaceCanonical : Obligations.StepKeepsRegisterSpaceCanonical := by
  intro s s' hs hstep
  obtain ⟨es, hr, -, -⟩ := step_stepRecord hstep
  rw [csrOk_iff] at hs ⊢
  rw [hr.params]
  exact hr.trace.cellsOk hs

/-- Settles O53, by what a step can do: waiting and answers before the guard leave the discipline's fields alone, and an
operation that runs either rests with the transaction it is expected to have in flight or releases the guard. -/
theorem stepKeepsTheGuardDiscipline : Obligations.StepKeepsTheGuardDiscipline := by
  intro s s' hs hstep
  cases step_kind hstep with
  | rests _ hu => exact hu.guardOk hs
  | illegal u hu => exact (hu.guardOk hs).congr rfl rfl rfl rfl rfl rfl rfl
  | serves u _ hu i he => exact he.guardOk (hu.guardOk hs)
  | resumes op ho => exact resumes_guardOk hs ho

/-- Settles O51. -/
theorem resetMeetsTheInvariants : Obligations.ResetMeetsTheInvariants :=
  ⟨⟨rfl, nofun⟩, ⟨rfl, rfl, rfl, rfl, nofun⟩, nofun⟩

/-- Settles O56. -/
theorem stepKeepsTheParameters : Obligations.StepKeepsTheParameters := by
  intro s s' hstep
  obtain ⟨es, hr, -, -⟩ := step_stepRecord hstep
  exact hr.params

/-- Settles O57: of all that can happen to the handle, only DETACH ends an attached one, and no ATTACH is in flight to
change its cells. -/
theorem identityIsNeverRefreshed : Obligations.IdentityIsNeverRefreshed := by
  intro s s' h hg hl hstep
  obtain ⟨es, -, -, hm⟩ := step_stepRecord hstep
  cases hm with
  | kept hk =>
    obtain ⟨f, hl', hf⟩ := hk
    obtain ⟨-, he, hi⟩ := hf h
    exact .inr ⟨f h, by rw [hl', hl]; rfl, hi (hg.not_attaching hl), he⟩
  | detached hd => exact .inl hd
  | created hc => simp [hl, Life.handle?] at hc
  | attaching ha _ => exact absurd ha (hg.not_attaching hl)

/-- Settles O58. -/
theorem everyFailureIsLoggedOnce : Obligations.EveryFailureIsLoggedOnce := by
  intro s s' hstep
  obtain ⟨es, hr, hn, hm⟩ := step_stepRecord hstep
  exact ⟨es, hr.history, hr.trace.diagEvents_eq_failures, hn, hm.diagGrows⟩

end Sys2Proof.Machine
end
section
namespace Sys2Proof.Machine

/-! ## Lifecycle and guard -/

/-- Settles O46. -/
theorem lifecycleGatesOperations : Obligations.LifecycleGatesOperations := by
  intro s i
  refine ⟨exec_of_not_attached s i, fun h hl => exec_attach_of_handle_some s h ?_⟩
  rcases hl with hl | hl <;> rw [hl] <;> rfl

/-- Settles O17. -/
theorem heldGuardMakesOperationsWait : Obligations.HeldGuardMakesOperationsWait := by
  intro s h q i hl hg hi
  have hw : s.underGuard h i (bodyOf i) = s.enqueue i := s.underGuard_held h i _ q hg
  rcases hi with hi | ⟨rfl, hn⟩
  · rw [exec_of_reachesBus s h i hl hi, hw]
    rfl
  · rw [exec_detach_of_waiting_nil s h hl hn, hw]
    rfl

/-! ## Which request a step takes up -/

/-- The oldest request at the port, if its word is valid, runs for its requester (R120, R123). -/
theorem serveNext_of_decode {s : State} {r : Request} {rest : List Request} {i : Instr}
    (hp : s.port = r :: rest) (hd : decode r.word = .ok i) :
    serveNext s = exec i { s with port := rest, caller := r.tag } := by
  simp [serveNext, hp, serveRequest, hd]

/-- With nothing in flight and nothing waiting a step looks at the port (R20). -/
theorem step_of_waiting_nil {s : State} (ha : s.active = none) (hw : s.waiting = []) :
    step s = serveNext s := by
  simp [step, advance, ha, stepFree, hw]

/-- With nothing in flight and requests waiting a step grants the guard (R23). -/
theorem step_of_waiting {s : State} (ha : s.active = none) (hw : s.waiting ≠ []) : step s = grantNext s := by
  simp [step, advance, ha, stepFree, hw]

/-- A listed choice of the arbiter, consumed, leaves the rest of the list and nothing else changed. -/
theorem dropGrant_of_cons {s : State} {k : Nat} {gs : List Nat} (hg : s.grants = k :: gs) :
    s.dropGrant = { s with grants := gs } := by
  simp [State.dropGrant, hg]

theorem nextGrant_of_cons {s : State} {k : Nat} {gs : List Nat} (hg : s.grants = k :: gs) :
    s.nextGrant = k := by
  simp [State.nextGrant, hg]

/-- The arbiter's choice of a waiting request runs it (R23, D22). -/
theorem grantNext_of_waiting {s : State} {k : Nat} {gs : List Nat} {op : Op} (hg : s.grants = k :: gs)
    (hk : s.waiting[k]? = some op) :
    grantNext s = exec op.instr { s with grants := gs, waiting := s.waiting.eraseIdx k, caller := op.tag } := by
  obtain ⟨hlt, -⟩ := List.getElem?_eq_some_iff.mp hk
  have hmod : s.nextGrant % contenders s = k := by
    rw [nextGrant_of_cons hg]
    exact Nat.mod_eq_of_lt (by unfold contenders; omega)
  unfold grantNext
  rw [hmod, hk, dropGrant_of_cons hg]

/-- The arbiter's choice of the request at the port takes it from there (D22). -/
theorem grantNext_of_port {s : State} {gs : List Nat} (hg : s.grants = s.waiting.length :: gs)
    (hp : s.port ≠ []) : grantNext s = serveNext { s with grants := gs } := by
  have hmod : s.nextGrant % contenders s = s.waiting.length := by
    rw [nextGrant_of_cons hg]
    exact Nat.mod_eq_of_lt (by simp [contenders, hp])
  unfold grantNext
  rw [hmod, List.getElem?_eq_none le_rfl, dropGrant_of_cons hg]

/-- Settles O12. -/
theorem stepRunsTheDecodedRequest : Obligations.StepRunsTheDecodedRequest := by
  intro s r rest i ha hw hp hd
  rw [step_of_waiting_nil ha hw, serveNext_of_decode hp hd]

/-- Settles O15. -/
theorem anyContenderMayGetTheGuard : Obligations.AnyContenderMayGetTheGuard := by
  intro s gs ha hw
  refine ⟨fun k op hk hg => ?_, fun r rest i hp hd hg => ?_⟩
  · rw [step_of_waiting ha hw, grantNext_of_waiting hg hk]
  · rw [step_of_waiting ha hw, grantNext_of_port hg (by simp [hp])]
    exact serveNext_of_decode hp hd

/-! ## Registers and their bits -/

/-- Settles O5: the first eight modules of a group are counted from 17 in the low register, the others from 25 in the
high one. -/
theorem moduleBitsAreReversedWithinEachRegister : Obligations.ModuleBitsAreReversedWithinEachRegister := by
  intro p g k
  constructor <;> intro hk
  · have hlow : inLowHalf (17 + k.val) = true := decide_eq_true (by omega)
    simp [sigKind, moduleReg, moduleBit, firstModule, hlow, moduleNumber]
  · have hhigh : inLowHalf (17 + k.val) = false := decide_eq_false (by omega)
    have hbit : 7 - (17 + k.val - 25) = 15 - k.val := by omega
    simp [sigKind, moduleReg, moduleBit, firstModule, hhigh, moduleNumber, hbit]

/-- `bitMask i` has bit `i` set and no other (R181). -/
theorem bitMask_getLsbD (i : BitIdx) (j : Nat) : (bitMask i).getLsbD j = true ↔ j = i.toNat := by
  have hi : i.toNat < 8 := i.isLt
  simp [bitMask, BitVec.getLsbD_shiftLeft, BitVec.getLsbD_one]
  omega

/-- A mask that a parameter switches on has its bit only then (R40, R45). -/
theorem ite_bitMask_getLsbD {c : Prop} [Decidable c] (i : BitIdx) (j : Nat) :
    (if c then bitMask i else 0x00#8).getLsbD j = true ↔ c ∧ j = i.toNat := by
  split <;> simp [bitMask_getLsbD, *]

/-- A register without storage bits keeps nothing that is stored to it (R29). -/
theorem storeIn_of_mask_zero {p : Params} {r : Reg} (hr : storageMask p r = 0x00#8) (m : List Host.Cell)
    (b : Byte) : storeIn p m r b = m := by
  simp [storeIn, hr]

/-- A register without storage bits is not the soft-reset register, so no write of it has a further effect (R33). -/
theorem firesSoftReset_of_mask_zero {p : Params} {r : Reg} (hr : storageMask p r = 0x00#8) (b : Byte) :
    firesSoftReset p r b = false := by
  have hne : r ≠ .softRst := by
    rintro rfl
    have h := (bitMask_getLsbD p.softRstBit p.softRstBit.toNat).mpr rfl
    simp only [storageMask] at hr
    simp [hr] at h
  simp [firesSoftReset, hne]

/-- Settles O38. -/
theorem storageBitsOfEachRegister : Obligations.StorageBitsOfEachRegister := by
  intro p
  refine ⟨?_, ?_, fun j => ?_, fun j => bitMask_getLsbD _ j, fun j => ite_bitMask_getLsbD _ j,
    fun j => ite_bitMask_getLsbD _ j, fun j => ite_bitMask_getLsbD _ j, fun m a b fx r hr hm => ⟨?_, ?_, ?_⟩⟩
  · simp [storageMask]
  · simp [storageMask]
  · simp only [storageMask, BitVec.getLsbD_or, Bool.or_eq_true, bitMask_getLsbD, or_assoc]
  · simp [landIn, hr, firesSoftReset_of_mask_zero hm, storeIn_of_mask_zero hm]
  · simp [failIn, hr, storeIn_of_mask_zero hm]
  · rintro s hw rfl
    have hall : hw &&& 255#8 = hw := BitVec.and_allOnes
    simp [State.readByte, hr, State.storage, hm, hall]

/-! ## The soft-reset effect -/

theorem effectIn_append (p : Params) (m : List Host.Cell) (fx fx' : List (Reg × Byte)) :
    effectIn p m (fx ++ fx') = effectIn p (effectIn p m fx) fx' := by
  induction fx generalizing m with
  | nil => rfl
  | cons c rest ih => exact ih _

/-- The effect leaves an address that it does not list unchanged (R98, U5). -/
theorem read_effectIn_other (p : Params) (m : List Host.Cell) (fx : List (Reg × Byte)) (x : Byte)
    (hx : ∀ c ∈ fx, addrOf p c.1 ≠ x) : Memory.read (effectIn p m fx) x.toNat = Memory.read m x.toNat := by
  induction fx generalizing m with
  | nil => rfl
  | cons c rest ih =>
    rw [List.forall_mem_cons] at hx
    have hc : x.toNat ≠ (addrOf p c.1).toNat := fun h => hx.1 (BitVec.eq_of_toNat_eq h.symm)
    exact (ih _ hx.2).trans (read_storeIn_other p m c.1 c.2 _ hc)

/-- A register whose address the effect does not list afterwards holds what was stored to it (R98). -/
theorem storedIn_effectIn_storeIn (p : Params) (m : List Host.Cell) (r : Reg) (b : Byte)
    (fx : List (Reg × Byte)) (hr : ∀ c ∈ fx, addrOf p c.1 ≠ addrOf p r) :
    storedIn p (effectIn p (storeIn p m r b) fx) r &&& storageMask p r = b &&& storageMask p r := by
  rw [← storedIn_storeIn_same p m r b]
  simp only [storedIn, read_effectIn_other p _ fx _ hr]

/-- A write that sets the soft-reset bit stores its byte and then applies the effect (R33, R98). -/
theorem landIn_of_fires {p : Params} {a b : Byte} {r : Reg} (hr : regAt p a = some r)
    (hf : firesSoftReset p r b = true) (m : List Host.Cell) (fx : List (Reg × Byte)) :
    landIn p m a b fx = effectIn p (storeIn p m r b) fx := by
  simp [landIn, hr, hf]

/-- An operation of one successful transaction, from the free guard to its end: nothing is in flight, and the guard is
free again (R168). -/
theorem finish_afterTxn_acquire (s : State) (h : Handle) (i : Instr) (x : Txn) (e : Event) (m : List Host.Cell)
    (r : Result) (hl : s.life = .attached h) (hg : h.guard = .free) :
    (afterTxn (s.acquire i) x e m).finish r = { s.settled 1 [e, .response s.caller r] with csr := m } := by
  have hlife : ((afterTxn (s.acquire i) x e m).finish r).life = s.life := by
    simp [afterTxn, hl, ← hg]
  have hhist : ((afterTxn (s.acquire i) x e m).finish r).history = s.history ++ [e, .response s.caller r] := by
    simp [afterTxn]
  calc (afterTxn (s.acquire i) x e m).finish r
      = { s.settled 1 [e, .response s.caller r] with
          csr := m, life := ((afterTxn (s.acquire i) x e m).finish r).life,
          history := ((afterTxn (s.acquire i) x e m).finish r).history } := rfl
    _ = { s.settled 1 [e, .response s.caller r] with csr := m } := by rw [hlife, hhist]; rfl

/-- Settles O26: what a successful write that fires the effect leaves is the written byte and then each entry of the
effect in turn, and a WRREG ends in it. -/
theorem softResetEffectIsApplied : Obligations.SoftResetEffectIsApplied := by
  refine ⟨fun p m a b fx hr hf => ⟨?_, fun hfx => ?_, fun x hx hfx => ?_⟩, fun s h a b hw fx hl hg hn => ?_⟩
  · rintro front r x back rfl hback
    rw [landIn_of_fires hr hf, effectIn_append]
    exact storedIn_effectIn_storeIn p _ r x back hback
  · rw [landIn_of_fires hr hf]
    exact storedIn_effectIn_storeIn p m _ b fx (by simpa [addrOf_regAt p a _ hr] using hfx)
  · have hxa : x.toNat ≠ (addrOf p .softRst).toNat := by
      rw [addrOf_regAt p a _ hr]
      exact fun h => hx (BitVec.eq_of_toNat_eq h)
    rw [landIn_of_fires hr hf, read_effectIn_other p _ fx x hfx, read_storeIn_other p m _ b _ hxa]
  · have hrun : (s.acquire (.wrreg a b)).xferWrite a b = _ := State.xferWrite_ok _ a b hw fx hn
    rw [exec_of_reachesBus s h _ hl rfl, s.underGuard_free h _ _ hg]
    simp only [bodyOf, wrregBody, State.writeOp, hrun, endWrite]
    rw [finish_afterTxn_acquire s h _ _ _ _ _ hl hg]
    rfl

end Sys2Proof.Machine
end
section
namespace Sys2Proof.Machine

/-! ## The sequencer up to an unanswered transaction -/

/-- The transport's answers depend on what it has listed and on how many free values were used (R96). -/
theorem answerAt_congr {s t : State} (hb : t.bus = s.bus) (hd : t.draws = s.draws) (k : Nat) :
    t.answerAt k = s.answerAt k := by
  induction k generalizing s t with
  | zero => simp only [State.answerAt, State.dropAnswers, State.nextAnswer, hb, hd]
  | succ k ih => exact ih (s := s.dropAnswer) (t := t.dropAnswer) (by simp [hb]) (by simp [hb, hd])

theorem AnswerUsed.answerAt {s t : State} (h : AnswerUsed s t) (k : Nat) : t.answerAt k = s.answerAt (k + 1) :=
  answerAt_congr h.bus h.draws k

/-- A listed answer is the one that comes (R96). -/
theorem answerAt_of_listed {s : State} {k : Nat} {a : BusAnswer} (h : s.bus[k]? = some a) : s.answerAt k = a := by
  induction k generalizing s with
  | zero =>
    obtain ⟨tl, hb⟩ : ∃ tl, s.bus = a :: tl := by
      cases hb : s.bus <;> simp_all
    simp [State.answerAt, State.dropAnswers, State.nextAnswer, hb]
  | succ k ih => exact ih (s := s.dropAnswer) (by simpa using h)

/-- The sequencer, with the steps `l` before it in the state `u`, has `k` transactions answered, recording `es`, and is
then in the state `m` with the steps `l'` before it (R210). -/
inductive Advances (l' : List BStep) (m : State) : Nat → List BStep → State → List Event → Prop
  | here : Advances l' m 0 l' m []
  | answered {k b rest u t es es'} (hb : bringupStep b (u.atStep b) = (true, t))
      (ht : Transaction (u.atStep b) es t) (h : Advances l' m k rest t es') :
      Advances l' m (k + 1) (b :: rest) u (es ++ es')

/-- The sequencer advances as far as the transport answers (R101). -/
theorem exists_advances {k : Nat} {l : List BStep} {u : State} {q : Tag} (hl : ∀ b ∈ l, b ∈ bringupOrder)
    (hk : k ≤ l.length) (hu : Holding u ⟨q, .attach⟩) (ha : ∀ j, j < k → isLate (u.answerAt j) = false) :
    ∃ m es, Advances (l.drop k) m k l u es ∧ m.nextAnswer = u.answerAt k := by
  induction k generalizing l u with
  | zero => exact ⟨u, [], .here, rfl⟩
  | succ k ih =>
    cases l with
    | nil => cases hk
    | cons b rest =>
      rw [List.forall_mem_cons] at hl
      have hstep := hu.atStep b
      obtain ⟨x, hx⟩ := bringupTxn_isSome u.params hl.1
      obtain ⟨hlate, -⟩ | ⟨-, es, t, hb, ht⟩ := bringupStep_cases (u.atStep b) b x hx hstep.attaching
      · have hnot : isLate (u.atStep b).nextAnswer = false := ha 0 (by omega)
        rw [hlate] at hnot
        cases hnot
      · have hans (j : Nat) : t.answerAt j = u.answerAt (j + 1) :=
          (ht.toAnswerUsed.answerAt j).trans (answerAt_congr (s := u) (t := u.atStep b) rfl rfl _)
        obtain ⟨m, es', hm, hn⟩ := ih hl.2 (by simpa using hk) (ht.holding hstep)
          (fun j hj => by rw [hans]; exact ha (j + 1) (by omega))
        exact ⟨m, _, .answered hb ht hm, hn.trans (hans k)⟩

namespace Advances

variable {l l' : List BStep} {k : Nat} {u m : State} {es : List Event}

theorem runBringup_eq (h : Advances l' m k l u es) : runBringup l u = runBringup l' m := by
  induction h with
  | here => rfl
  | answered hb ht _ ih => rw [runBringup_cons, hb, ← ih]; rfl

theorem leads (h : Advances l' m k l u es) : Leads u es m := by
  induction h with
  | here => exact .of_eq rfl rfl rfl rfl rfl
  | answered hb ht _ ih =>
    exact (atStep_leads _ _).trans (ht.toLeads.trans ih)

theorem holding {op : Op} (h : Advances l' m k l u es) (hu : Holding u op) : Holding m op := by
  induction h with
  | here => exact hu
  | answered hb ht _ ih => exact ih (ht.holding (hu.atStep _))

theorem caller (h : Advances l' m k l u es) : m.caller = u.caller := by
  induction h with
  | here => rfl
  | answered hb ht _ ih => exact ih.trans ht.caller

theorem busEvents_length (h : Advances l' m k l u es) : (busEvents es).length = k := by
  induction h with
  | here => rfl
  | answered hb ht _ ih =>
    have hone := ht.one
    simp only [busEvents, List.filter_append, List.length_append] at hone ih ⊢
    omega

end Advances

/-- While an ATTACH holds the guard its handle is in BRINGUP (R216). -/
theorem Holding.bringup_life {s : State} {q : Tag} (h : Holding s ⟨q, .attach⟩) :
    ∃ h₀, s.life = .bringup h₀ ∧ h₀.guard = .held q := by
  have hb := h.bringup.mpr rfl
  have hg := h.guard
  cases hl : s.life with
  | bringup h₀ => exact ⟨h₀, rfl, by simpa [hl, Life.handle?] using hg⟩
  | absent | attached | detached => simp [hl, Life.isBringup] at hb

/-- Where the transport is silent the sequencer rests with its transaction in flight (R101). -/
theorem runBringup_of_late {b : BStep} {rest : List BStep} {m : State} {q : Tag} {x : Txn}
    (hm : Holding m ⟨q, .attach⟩) (hx : bringupTxn m.params b = some x) (ha : m.nextAnswer = .late) :
    runBringup (b :: rest) m = ((m.atStep b).issue x).dropAnswer := by
  obtain ⟨-, hb⟩ | ⟨hn, -⟩ := bringupStep_cases (m.atStep b) b x hx (hm.atStep b).attaching
  · rw [runBringup_cons, hb]
    rfl
  · have hlate : isLate m.nextAnswer = false := hn
    rw [ha] at hlate
    cases hlate

/-- The state in which an ATTACH has acquired the guard after its capability check (R210). -/
def State.attachGranted (s : State) : State := s.beginAttach.dropCap.acquire .attach

theorem attachGranted_holding (s : State) : Holding s.attachGranted ⟨s.caller, .attach⟩ :=
  ⟨rfl, rfl, by simp [State.attachGranted, Life.isBringup]⟩

theorem handle_none_of_unbound {s : State} (hl : s.life = .absent ∨ s.life = .detached) :
    s.life.handle? = none := by
  rcases hl with hl | hl <;> rw [hl] <;> rfl

/-- An ATTACH whose capability call is unanswered waits for it (R20). -/
theorem attachRun_of_cap_late {s : State} (hc : s.dropBinding.nextCap = .late) :
    attachRun s = s.beginAttach.dropCap := by
  have hc' : s.beginAttach.nextCap = .late := hc
  simp [attachRun, askCap, hc']

/-- An ATTACH with the capability goes on to its ten transactions (R210). -/
theorem attachRun_of_cap_yes {s : State} (hc : s.dropBinding.nextCap = .yes) :
    attachRun s = runBringup bringupOrder s.attachGranted := by
  have hc' : s.beginAttach.nextCap = .yes := hc
  simp [attachRun, askCap, hc', State.attachGranted]

/-- Settles O19: the sequencer advances over the answered transactions and rests at the silent one. -/
theorem unansweredAttachStaysInBringup : Obligations.UnansweredAttachStaysInBringup := by
  rintro s _ hl rfl
  have hexec : exec .attach s = .next (attachRun s) :=
    exec_attach_of_handle_none s (handle_none_of_unbound hl)
  refine ⟨fun hc => ?_, fun k b x hc hk hx hans hlate => ?_⟩
  · rw [hexec, attachRun_of_cap_late hc]
    rfl
  · obtain ⟨hlt, hget⟩ := List.getElem?_eq_some_iff.mp hk
    have hinputs (j : Nat) : s.attachGranted.answerAt j = s.dropBinding.dropCap.answerAt j :=
      answerAt_congr (s := s.dropBinding.dropCap) (t := s.attachGranted) rfl rfl j
    obtain ⟨m, es, hadv, hnext⟩ := exists_advances (fun _ hb => hb) hlt.le (attachGranted_holding s)
      (fun j hj => by rw [hinputs]; exact hans j hj)
    have hm : Holding m ⟨s.caller, .attach⟩ := hadv.holding (attachGranted_holding s)
    obtain ⟨h, hlife, hguard⟩ := hm.bringup_life
    have hmx : bringupTxn m.params b = some x := by rw [hadv.leads.params]; exact hx
    refine ⟨((m.atStep b).issue x).dropAnswer, es, h, ?_, hlife, hguard, hm.active, rfl, rfl, rfl,
      hadv.leads.history, hadv.busEvents_length, hadv.leads.silent⟩
    rw [hexec, attachRun_of_cap_yes hc, hadv.runBringup_eq, List.drop_eq_getElem_cons hlt, hget,
      runBringup_of_late hm hmx (by rw [hnext, hinputs, hlate])]

/-! ## A delayed ATTACH -/

/-- The state with other coming answers of the transport and other requests at the port. -/
def State.withInputs (s : State) (bus : List BusAnswer) (port : List Request) : State :=
  { s with bus := bus, port := port }

/-- A transaction uses the first listed answer and looks at no other, nor at the port (R96). -/
theorem xferRead_withInputs {s : State} {a : BusAnswer} {tl : List BusAnswer} (hs : s.bus = a :: tl)
    (x : Byte) (tl' : List BusAnswer) (p : List Request) :
    (s.withInputs (a :: tl') p).xferRead x = ((s.xferRead x).1, (s.xferRead x).2.withInputs tl' p) := by
  cases s
  cases hs
  cases a <;> rfl

theorem xferWrite_withInputs {s : State} {a : BusAnswer} {tl : List BusAnswer} (hs : s.bus = a :: tl)
    (x v : Byte) (tl' : List BusAnswer) (p : List Request) :
    (s.withInputs (a :: tl') p).xferWrite x v = ((s.xferWrite x v).1, (s.xferWrite x v).2.withInputs tl' p) := by
  cases s
  cases hs
  cases a <;> rfl

theorem bringupStep_withInputs {s : State} {b : BStep} {x : Txn} {a : BusAnswer} {tl : List BusAnswer}
    (hx : bringupTxn s.params b = some x) (hs : s.bus = a :: tl) (tl' : List BusAnswer) (p : List Request) :
    bringupStep b (s.withInputs (a :: tl') p) = ((bringupStep b s).1, (bringupStep b s).2.withInputs tl' p) := by
  cases x with
  | rd c =>
    obtain ⟨store, hb⟩ := bringupStep_read hx
    rw [hb s rfl, hb (s.withInputs (a :: tl') p) rfl, xferRead_withInputs hs]
    rcases s.xferRead c with ⟨_ | _ | _, t⟩ <;> rfl
  | wr c v =>
    have hx' : bringupTxn (s.withInputs (a :: tl') p).params b = some (.wr c v) := hx
    rw [bringupStep_write hx, bringupStep_write hx', xferWrite_withInputs hs]
    rcases s.xferWrite c v with ⟨_ | _ | _, t⟩ <;> rfl

/-- The sequencer advances in the same way whatever the transport answers later and whatever is at the port. -/
theorem Advances.withInputs {l l' : List BStep} {k : Nat} {u m : State} {es : List Event}
    (h : Advances l' m k l u es) (hl : ∀ b ∈ l, b ∈ bringupOrder) {pre tl : List BusAnswer}
    (hu : u.bus = pre ++ tl) (hk : pre.length = k) (tl' : List BusAnswer) (p : List Request) :
    m.bus = tl ∧ runBringup l (u.withInputs (pre ++ tl') p) = runBringup l' (m.withInputs tl' p) := by
  induction h generalizing pre with
  | here =>
    cases List.length_eq_zero_iff.mp hk
    exact ⟨hu, rfl⟩
  | @answered k b rest u t es es' hb ht _ ih =>
    rw [List.forall_mem_cons] at hl
    cases pre with
    | nil => cases hk
    | cons a pre =>
      obtain ⟨x, hx⟩ := bringupTxn_isSome u.params hl.1
      have ht' : t.bus = pre ++ tl := by rw [ht.bus]; exact congrArg List.tail hu
      obtain ⟨hm, hrun⟩ := ih hl.2 ht' (by simpa using hk)
      refine ⟨hm, ?_⟩
      have hb' : bringupStep b ((u.withInputs (a :: pre ++ tl') p).atStep b) = (true, t.withInputs (pre ++ tl') p) := by
        have := bringupStep_withInputs (s := u.atStep b) hx hu (pre ++ tl') p
        rwa [hb] at this
      rw [runBringup_cons, hb', ← hrun]
      rfl

/-- A transaction in flight is not issued a second time: looking at the transport again is the same as issuing the
transaction then (R101). -/
theorem bringupStep_issue {s : State} {b : BStep} {x : Txn} (hx : bringupTxn s.params b = some x) :
    bringupStep b (s.issue x) = bringupStep b s := by
  cases x with
  | rd a =>
    obtain ⟨store, hb⟩ := bringupStep_read hx
    rw [hb s rfl, hb (s.issue (.rd a)) rfl]
    rfl
  | wr a v =>
    have hx' : bringupTxn (s.issue (.wr a v)).params b = some (.wr a v) := hx
    rw [bringupStep_write hx, bringupStep_write hx']
    rfl

theorem runBringup_issue {b : BStep} {x : Txn} {s : State} (rest : List BStep)
    (hx : bringupTxn s.params b = some x) :
    runBringup (b :: rest) (s.issue x) = runBringup (b :: rest) s := by
  have hs : bringupStep b ((s.issue x).atStep b) = bringupStep b (s.atStep b) :=
    bringupStep_issue (s := s.atStep b) hx
  rw [runBringup_cons, runBringup_cons, hs]

/-- The sequencer goes on at its own step of the order (R210). -/
theorem bringupFrom_drop {k : Nat} (hk : k < bringupOrder.length) :
    bringupFrom bringupOrder[k] = bringupOrder.drop k := by
  revert k
  decide

theorem isLate_iff (a : BusAnswer) : isLate a = true ↔ a = .late := by
  cases a <;> simp [isLate]

/-- Past the capability call, the transport is silent when its next answer is late (R101). -/
theorem silent_of_not_awaitsCap {s : State} (h : s.awaitsCap = false) : s.silent = isLate s.nextAnswer := by
  simp [State.silent, h]

/-- A step of an ATTACH in flight: nothing where the transport is silent, else its rest (R20, R101, R216). -/
theorem step_of_attaching {s : State} (ha : s.active = some ⟨s.caller, .attach⟩)
    (hb : s.life.isBringup = true) :
    step s = .next (if s.silent then s.dropSilence else attachBody s) := by
  simp only [step, advance, ha, stepBusy, hb, resume_eq]
  split <;> rfl

/-- A step of an ATTACH at the capability call asks again (R20). -/
theorem step_beginAttach (s : State) : step s.beginAttach = .next (askCap s.beginAttach) := by
  have hcap : s.beginAttach.awaitsCap = true := rfl
  rw [step_of_attaching rfl rfl, attachBody_of_cap rfl]
  split
  · rename_i hs
    have hlate : s.beginAttach.nextCap = .late := by simpa [State.silent, hcap] using hs
    simp [askCap, hlate, State.dropSilence, hcap]
  · rfl

/-- A step of an ATTACH that rests at a transaction goes on with the sequencer as if the transaction were issued then
(R101). -/
theorem step_issue_attach {k : Nat} {x : Txn} {s : State} (hs : Holding s ⟨s.caller, .attach⟩)
    (hk : k < bringupOrder.length) (hb : s.bstep = some bringupOrder[k])
    (hx : bringupTxn s.params bringupOrder[k] = some x) :
    step (s.issue x) = .next (runBringup (bringupOrder.drop k) s) := by
  have hdrop := List.drop_eq_getElem_cons hk
  have hrun := runBringup_issue (bringupOrder.drop (k + 1)) hx
  have hcap : (s.issue x).awaitsCap = false := by
    have hne : bringupOrder[k] ≠ .s1Cap := by
      intro h
      simp [h, bringupTxn] at hx
    simp [State.awaitsCap, hb, hne]
  rw [step_of_attaching (s := s.issue x) hs.active (hs.bringup.mpr rfl), attachBody_of_txn (s := s.issue x) hb hx,
    bringupFrom_drop hk, hdrop, hrun]
  split
  · rename_i hsil
    have hlate : s.nextAnswer = .late :=
      (isLate_iff _).mp ((silent_of_not_awaitsCap hcap).symm.trans hsil)
    have hat : s.atStep bringupOrder[k] = s := by simp [State.atStep, ← hb]
    rw [runBringup_of_late hs hx hlate, hat]
    simp [State.dropSilence, hcap]
  · rfl

theorem runBringup_atStep (b : BStep) (rest : List BStep) (s : State) :
    runBringup (b :: rest) (s.atStep b) = runBringup (b :: rest) s := by
  rw [runBringup_cons, runBringup_cons]
  rfl

/-- A transaction whose silence is consumed is in flight with the rest of the listed answers to come (R101). -/
theorem issue_dropAnswer_withInputs {s : State} {tl : List BusAnswer} (hs : s.bus = .late :: tl) (x : Txn)
    (p : List Request) :
    { (s.issue x).dropAnswer with port := p } = (s.withInputs tl p).issue x := by
  simp [State.dropAnswer, State.withInputs, State.issue, hs]

/-- The state an ATTACH rests in at a transaction is the one it would have been in without the silence, with that
transaction in flight; so a step does what it would have done (R101, R216). -/
theorem step_of_delayed_transaction {s : State} {pre post : List BusAnswer} (hn : s.life.handle? = none)
    (hc : s.dropBinding.nextCap = .yes) (hbus : s.bus = pre ++ .late :: post)
    (hlen : pre.length < bringupOrder.length) (hpre : ∀ a ∈ pre, isLate a = false) (port : List Request) :
    step { attachRun s with port := port } = exec .attach { s with bus := pre ++ post, port := port } := by
  have hgranted := attachGranted_holding s
  have hanswered (j : Nat) (hj : j < pre.length) : isLate (s.attachGranted.answerAt j) = false := by
    have hb : s.attachGranted.bus[j]? = some pre[j] := by
      rw [show s.attachGranted.bus = pre ++ .late :: post from hbus, List.getElem?_append_left hj,
        List.getElem?_eq_getElem hj]
    rw [answerAt_of_listed hb]
    exact hpre _ (List.getElem_mem hj)
  obtain ⟨m, es, hadv, -⟩ := exists_advances (fun _ hb => hb) hlen.le hgranted hanswered
  obtain ⟨hmbus, hrun⟩ := hadv.withInputs (fun _ hb => hb) hbus rfl post port
  have hm : Holding m ⟨s.caller, .attach⟩ := hadv.holding hgranted
  obtain ⟨x, hx⟩ := bringupTxn_isSome m.params (List.getElem_mem hlen)
  have hlate : m.nextAnswer = .late := by simp [State.nextAnswer, hmbus]
  let r := (m.withInputs post port).atStep bringupOrder[pre.length]
  have hrests : { attachRun s with port := port } = r.issue x := by
    rw [attachRun_of_cap_yes hc, hadv.runBringup_eq, List.drop_eq_getElem_cons hlen,
      runBringup_of_late hm hx hlate]
    exact issue_dropAnswer_withInputs (s := m.atStep bringupOrder[pre.length]) hmbus x port
  have hr : Holding r ⟨r.caller, .attach⟩ := by
    rw [show r.caller = s.caller from hadv.caller]
    exact ⟨hm.active, hm.guard, hm.bringup⟩
  calc step { attachRun s with port := port }
      = .next (runBringup (bringupOrder.drop pre.length) r) := by
        rw [hrests]
        exact step_issue_attach hr hlen rfl hx
    _ = .next (runBringup (bringupOrder.drop pre.length) (m.withInputs post port)) := by
        rw [List.drop_eq_getElem_cons hlen, runBringup_atStep]
    _ = .next (runBringup bringupOrder (s.attachGranted.withInputs (pre ++ post) port)) := by rw [hrun]
    _ = .next (attachRun { s with bus := pre ++ post, port := port }) := by
        rw [attachRun_of_cap_yes (s := { s with bus := pre ++ post, port := port }) hc]
        rfl
    _ = exec .attach { s with bus := pre ++ post, port := port } :=
        (exec_attach_of_handle_none { s with bus := pre ++ post, port := port } hn).symm

/-- The state an ATTACH rests in at the capability call is the one it starts with without the silence (R20). -/
theorem step_of_delayed_cap {s : State} {rest : List CapAnswer} (hn : s.life.handle? = none)
    (hcaps : s.caps = .late :: rest) (port : List Request) :
    step { attachRun s with port := port } = exec .attach { s with caps := rest, port := port } := by
  have hlate : s.dropBinding.nextCap = .late := by simp [State.nextCap, hcaps]
  have hrests : { attachRun s with port := port } = State.beginAttach { s with caps := rest, port := port } := by
    rw [attachRun_of_cap_late hlate]
    simp only [State.dropCap, State.beginAttach, State.dropBinding, hcaps]
    rfl
  rw [hrests, step_beginAttach, exec_attach_of_handle_none { s with caps := rest, port := port } hn]
  rfl

/-- Settles O22. -/
theorem delayedAttachEndsAsUndelayed : Obligations.DelayedAttachEndsAsUndelayed := by
  intro s hl
  have hn := handle_none_of_unbound hl
  have hexec := exec_attach_of_handle_none s hn
  exact ⟨fun pre post hc hbus hlen hpre => ⟨_, hexec, step_of_delayed_transaction hn hc hbus hlen hpre⟩,
    fun rest hcaps => ⟨_, hexec, step_of_delayed_cap hn hcaps⟩⟩

end Sys2Proof.Machine
end

section
namespace Sys2Proof.Machine

/-! ## The latch of a read-modify-write -/

/-- Of the byte that a read returns, the storage bits are those of the register (R97). -/
theorem readByte_and_storageMask {s : State} {a : Byte} {r : Reg} (hr : regAt s.params a = some r) (hw : Byte) :
    s.readByte a hw &&& storageMask s.params r = s.storage r := by
  simp only [State.readByte, hr, State.storage]
  ext i
  simp only [BitVec.getElem_and, BitVec.getElem_or, BitVec.getElem_not]
  cases (storageMask s.params r)[i] <;> simp

theorem LatchFresh.congr {s t : State} (hs : LatchFresh s) (hp : t.params = s.params) (ha : t.active = s.active)
    (hc : t.cur = s.cur) (hm : t.csr = s.csr) : LatchFresh t := by
  simpa only [LatchFresh, State.storage, hp, ha, hc, hm] using hs

theorem SameCore.latchFresh {s t : State} (h : SameCore s t) (hs : LatchFresh s) : LatchFresh t :=
  hs.congr h.params h.active h.cur h.csr

theorem latchFresh_of_active_none {s : State} (ha : s.active = none) : LatchFresh s := by
  intro op c a r ho
  simp [ha] at ho

theorem latchFresh_of_cur_none {s : State} (hc : s.cur = none) : LatchFresh s := by
  intro op c a r _ ho
  simp [hc] at ho

/-- An ATTACH has no latch to keep fresh (R210). -/
theorem Attaching.latchFresh {s : State} (ha : Attaching s) : LatchFresh s := by
  obtain ⟨q, ha⟩ := ha
  intro op c a r ho _ ht
  cases ha.symm.trans ho
  cases ht

theorem readOp_latchFresh {s : State} (hs : LatchFresh s) (a : Byte) (f : Byte → Result) :
    LatchFresh (s.readOp a f) := by
  obtain ⟨-, h⟩ | ⟨left, -, h⟩ | ⟨hw, fx, -, h⟩ := s.readOp_cases a f <;> rw [h]
  · exact hs.congr rfl rfl rfl rfl
  · exact latchFresh_of_active_none rfl
  · exact latchFresh_of_active_none rfl

theorem writeOp_latchFresh {s : State} (hs : LatchFresh s) (a b : Byte) : LatchFresh (s.writeOp a b) := by
  obtain ⟨-, h⟩ | ⟨left, -, h⟩ | ⟨hw, fx, -, h⟩ := s.writeOp_cases a b <;> rw [h]
  · exact hs.congr rfl rfl rfl rfl
  · exact latchFresh_of_active_none rfl
  · exact latchFresh_of_active_none rfl

/-- The byte that a read-modify-write has just read is fresh (R85). -/
theorem latch_readByte_latchFresh {s : State} {op : Op} {a : Byte} (ho : s.active = some op)
    (ht : ∀ a', rmwTarget s.params op.instr = some a' → a' = a) (hw : Byte) :
    LatchFresh ((afterTxn s (.rd a) (.read a (some (s.readByte a hw))) s.csr).latch (s.readByte a hw)) := by
  intro op' c a' r ho' hc ha' hr
  cases ho.symm.trans ho'
  cases hc
  cases ht a' ha'
  exact readByte_and_storageMask hr hw

theorem rmwOp_latchFresh {s : State} {op : Op} {a : Byte} (hs : LatchFresh s) (ho : s.active = some op)
    (ht : ∀ a', rmwTarget s.params op.instr = some a' → a' = a) (j : BitIdx) (v : Bool) :
    LatchFresh (s.rmwOp a j v) := by
  cases hc : s.cur with
  | some c =>
    rw [s.rmwOp_latched a j v c hc]
    exact writeOp_latchFresh hs a _
  | none =>
    obtain ⟨-, h⟩ | ⟨left, -, h⟩ | ⟨hw, fx, -, h⟩ := s.rmwOp_cases a j v hc <;> rw [h]
    · exact hs.congr rfl rfl rfl rfl
    · exact latchFresh_of_active_none rfl
    · exact writeOp_latchFresh (latch_readByte_latchFresh ho ht hw) a _

theorem runBringup_latchFresh {s : State} (l : List BStep) (ha : Attaching s) : LatchFresh (runBringup l s) := by
  induction l generalizing s with
  | nil => exact latchFresh_of_active_none rfl
  | cons b rest ih =>
    rw [runBringup_cons]
    cases hx : bringupTxn (s.atStep b).params b with
    | none =>
      rw [bringupStep_none _ b hx]
      exact ih (s := s.atStep b) ha
    | some x =>
      obtain ⟨-, h⟩ | ⟨-, es, t, h, ht⟩ := bringupStep_cases (s.atStep b) b x hx ha <;> rw [h]
      · exact Attaching.latchFresh ha
      · exact ih ⟨ha.choose, ht.active.trans ha.choose_spec⟩

theorem askCap_latchFresh {s : State} (ha : Attaching s) : LatchFresh (askCap s) := by
  obtain ⟨-, h⟩ | ⟨-, h⟩ | ⟨-, h⟩ := askCap_cases s <;> rw [h]
  · exact Attaching.latchFresh ha
  · exact runBringup_latchFresh _ ⟨_, rfl⟩
  · exact latchFresh_of_active_none rfl

theorem attachBody_latchFresh {s : State} (ha : Attaching s) : LatchFresh (attachBody s) := by
  unfold attachBody
  split
  · exact askCap_latchFresh ha
  · exact runBringup_latchFresh _ ha
  · exact ha.latchFresh

/-- A read-modify-write runs as one at the register it works on, with the transaction it has in flight (R183, R185). -/
theorem bodyOf_of_rmwTarget {s : State} {i : Instr} {a : Byte} (ht : rmwTarget s.params i = some a) :
    ∃ j v, bodyOf i s = s.rmwOp a j (valueBit v)
      ∧ ∀ c b, expectedTxn s.params i c b = some (rmwTxn c a j v) := by
  cases i with
  | setbit d v =>
    cases ht
    exact ⟨d.bit, v, rfl, fun _ _ => rfl⟩
  | setsig g v =>
    cases hk : sigKind s.params g with
    | bit r j =>
      obtain rfl : addrOf s.params r = a := by simpa [rmwTarget, hk] using ht
      exact ⟨j, v, by simp only [bodyOf, setsigBody, hk]; rfl, by simp [expectedTxn, hk]⟩
    | byte r | ident f => simp [rmwTarget, hk] at ht
  | rdreg | wrreg | getbit | getsig | attach | detach => cases ht

/-- An operation that is expected to have the transactions of a read-modify-write at `a` in flight has no other
register to work on (R183). -/
theorem rmwTarget_eq_of_expectedTxn {s : State} {i : Instr} {a a' : Byte} {j : BitIdx} {v : Value}
    (hx : ∀ c b, expectedTxn s.params i c b = some (rmwTxn c a j v)) (ht : rmwTarget s.params i = some a') :
    a' = a := by
  obtain ⟨j', v', -, hx'⟩ := bodyOf_of_rmwTarget ht
  simpa [rmwTxn] using (hx' none none).symm.trans (hx none none)

/-- An operation keeps the latch fresh from its `acquire` onward. -/
theorem bodyOf_latchFresh {s : State} {op : Op} (hs : LatchFresh s) (ho : s.active = some op) :
    LatchFresh (bodyOf op.instr s) := by
  by_cases ha : op.instr = .attach
  · rw [ha]
    exact attachBody_latchFresh ⟨op.tag, by rw [ho, ← ha]⟩
  · by_cases hd : op.instr = .detach
    · rw [hd]
      exact latchFresh_of_active_none rfl
    · cases bodyForm op.instr s ha hd with
      | read a f hb _ => exact hb ▸ readOp_latchFresh hs a f
      | write a v hb _ => exact hb ▸ writeOp_latchFresh hs a v
      | modify a j v hb hx =>
        exact hb ▸ rmwOp_latchFresh hs ho (fun _ => rmwTarget_eq_of_expectedTxn hx) j _
      | nothing hb _ => exact hb.symm ▸ hs

theorem Executed.latchFresh {i : Instr} {s t : State} (he : Executed i s t) (hs : LatchFresh s) : LatchFresh t := by
  cases he with
  | attaches hi hl => exact askCap_latchFresh (s := s.beginAttach) ⟨_, rfl⟩
  | answered h hl r => exact hs.congr rfl rfl rfl rfl
  | waits h hl q hg => exact hs.congr rfl rfl rfl rfl
  | runs h hl hg hi =>
    exact bodyOf_latchFresh (s := s.acquire i) (op := ⟨s.caller, i⟩) (latchFresh_of_cur_none rfl) rfl

/-- Settles O54: an operation that takes the guard starts without a latch, a read-modify-write latches what its register
holds, and whatever stores ends its operation. -/
theorem stepKeepsTheLatchFresh : Obligations.StepKeepsTheLatchFresh := by
  intro s s' _ hs hstep
  cases step_kind hstep with
  | rests _ hu => exact hu.latchFresh hs
  | illegal u hu => exact (hu.latchFresh hs).congr rfl rfl rfl rfl
  | serves u _ hu i he => exact he.latchFresh (hu.latchFresh hs)
  | resumes op ho => exact bodyOf_latchFresh (s := s.serving op.tag) hs ho

end Sys2Proof.Machine
end

section
namespace Sys2Proof.Machine

/-! ## What a write leaves in the register space -/

/-- A successful write without a soft-reset effect stores its byte and does nothing else (R98). -/
theorem landIn_of_not_fires {p : Params} {a b : Byte} {r : Reg} (hr : regAt p a = some r)
    (hf : firesSoftReset p r b = false) (m : List Host.Cell) (fx : List (Reg × Byte)) :
    landIn p m a b fx = storeIn p m r b := by
  simp [landIn, hr, hf]

/-- A failed write leaves some byte in the storage bits of its register (R99). -/
theorem failIn_of_regAt {p : Params} {a : Byte} {r : Reg} (hr : regAt p a = some r) (m : List Host.Cell)
    (left : Byte) : failIn p m a left = storeIn p m r left := by
  simp [failIn, hr]

/-- A successful write at an address without a register leaves the register space as it is (R88). -/
theorem landIn_of_unmapped {p : Params} {a : Byte} (hr : regAt p a = none) (m : List Host.Cell) (b : Byte)
    (fx : List (Reg × Byte)) : landIn p m a b fx = m := by
  simp [landIn, hr]

/-- A failed write at an address without a register leaves the register space as it is (R88). -/
theorem failIn_of_unmapped {p : Params} {a : Byte} (hr : regAt p a = none) (m : List Host.Cell) (left : Byte) :
    failIn p m a left = m := by
  simp [failIn, hr]

/-- Storing to the register at one address leaves the other addresses as they are (R98). -/
theorem read_storeIn_of_regAt {p : Params} {a x : Byte} {r : Reg} (hr : regAt p a = some r) (hx : x ≠ a)
    (m : List Host.Cell) (b : Byte) : Memory.read (storeIn p m r b) x.toNat = Memory.read m x.toNat := by
  refine read_storeIn_other p m r b _ ?_
  rw [addrOf_regAt p a r hr]
  exact fun h => hx (BitVec.eq_of_toNat_eq h)

/-- A successful write without a soft-reset effect leaves the other addresses as they are (R98). -/
theorem read_landIn_other {p : Params} {a b x : Byte}
    (hf : ∀ r, regAt p a = some r → firesSoftReset p r b = false) (hx : x ≠ a) (m : List Host.Cell)
    (fx : List (Reg × Byte)) : Memory.read (landIn p m a b fx) x.toNat = Memory.read m x.toNat := by
  cases hr : regAt p a with
  | none => rw [landIn_of_unmapped hr]
  | some r => rw [landIn_of_not_fires hr (hf r hr), read_storeIn_of_regAt hr hx]

/-- A failed write leaves the other addresses as they are (R99). -/
theorem read_failIn_other {p : Params} {a x : Byte} (hx : x ≠ a) (m : List Host.Cell) (left : Byte) :
    Memory.read (failIn p m a left) x.toNat = Memory.read m x.toNat := by
  cases hr : regAt p a with
  | none => rw [failIn_of_unmapped hr]
  | some r => rw [failIn_of_regAt hr, read_storeIn_of_regAt hr hx]

/-- Settles O37. -/
theorem landedAndFailedWritesTouchOneRegister : Obligations.LandedAndFailedWritesTouchOneRegister := by
  intro p m a b fx
  refine ⟨fun hf => ⟨fun r hr => ?_, fun x hx => read_landIn_other hf hx m fx⟩, fun r hr => ?_,
    fun x hx => read_failIn_other hx m b⟩
  · rw [landIn_of_not_fires hr (hf r hr), storedIn_storeIn_same]
  · rw [failIn_of_regAt hr, storedIn_storeIn_same]

/-- A write fires the soft-reset effect only at the address of REG_SOFT_RST, and only where an effect is configured
(R33). -/
theorem not_firesSoftReset {p : Params} {a b : Byte} {r : Reg} (hr : regAt p a = some r)
    (h : p.softRstEffect = .identity ∨ a ≠ addrOf p .softRst) : firesSoftReset p r b = false := by
  rcases h with h | h
  · simp [firesSoftReset, h]
  · have hne : r ≠ .softRst := by
      rintro rfl
      exact h (addrOf_regAt p a _ hr).symm
    simp [firesSoftReset, hne]

theorem writesTo_write_cons (a x b : Byte) (ok : Bool) (es : List Event) :
    writesTo a (.write x b ok :: es) = false ↔ x ≠ a ∧ writesTo a es = false := by
  simp [writesTo]

/-- Along transactions the byte at an address stays, where none of them writes to it and none may have a soft-reset
effect (R98, R99). -/
theorem BusTrace.read_eq {p : Params} {m m' : List Host.Cell} {es : List Event} {a : Byte}
    (h : BusTrace p m es m') (ha : writesTo a es = false)
    (hs : p.softRstEffect = .identity ∨ writesTo (addrOf p .softRst) es = false) :
    Memory.read m' a.toNat = Memory.read m a.toNat := by
  induction h with
  | nil m => rfl
  | response q r _ ih => exact ih ha hs
  | readOk x b _ ih => exact ih ha hs
  | readErr x _ ih => exact ih ha hs
  | writeOk x b fx _ ih =>
    rw [writesTo_write_cons] at ha hs
    rw [ih ha.2 (hs.imp_right (·.2))]
    exact read_landIn_other (fun r hr => not_firesSoftReset hr (hs.imp_right (·.1))) ha.1.symm _ fx
  | writeErr x b left _ ih =>
    rw [writesTo_write_cons] at ha hs
    rw [ih ha.2 (hs.imp_right (·.2))]
    exact read_failIn_other ha.1.symm _ left

/-- Settles O59: the register space changes along the transactions that the step records. -/
theorem registersChangeOnlyByWriteTransactions : Obligations.RegistersChangeOnlyByWriteTransactions := by
  intro s s' hstep
  obtain ⟨es, hr, -, -⟩ := step_stepRecord hstep
  exact ⟨es, hr.history, fun a ha hs => hr.trace.read_eq ha hs⟩

/-! ## RDREG and WRREG -/

/-- A successful RDREG, from the free guard to its end (R162). -/
theorem exec_rdreg_of_ok {s : State} {h : Handle} {hw : Byte} {fx : List (Reg × Byte)} (a : Byte)
    (hl : s.life = .attached h) (hg : h.guard = .free) (hn : s.nextAnswer = .ok hw fx) :
    exec (.rdreg a) s = .next (s.settled 1
      [.read a (some (s.readByte a hw)), .response s.caller (.okByte (s.readByte a hw))]) := by
  have hrun : (s.acquire (.rdreg a)).xferRead a = _ := State.xferRead_ok _ a hw fx hn
  rw [exec_of_reachesBus s h _ hl rfl, s.underGuard_free h _ _ hg]
  simp only [bodyOf, rdregBody, State.readOp, hrun, endRead]
  rw [finish_afterTxn_acquire s h _ _ _ _ _ hl hg]
  rfl

/-- A successful WRREG, from the free guard to its end (R163). -/
theorem exec_wrreg_of_ok {s : State} {h : Handle} {hw : Byte} {fx : List (Reg × Byte)} (a b : Byte)
    (hl : s.life = .attached h) (hg : h.guard = .free) (hn : s.nextAnswer = .ok hw fx) :
    exec (.wrreg a b) s = .next { s.settled 1 [.write a b true, .response s.caller .ok] with
      csr := landIn s.params s.csr a b fx } :=
  softResetEffectIsApplied.2 s h a b hw fx hl hg hn

/-- A write at an address without a register changes no register, however it is answered (R88). -/
theorem writeOp_csr_of_unmapped {s : State} {a : Byte} (hr : regAt s.params a = none) (b : Byte) :
    (s.writeOp a b).csr = s.csr := by
  obtain ⟨-, h⟩ | ⟨left, -, h⟩ | ⟨hw, fx, -, h⟩ := s.writeOp_cases a b <;> rw [h]
  · rfl
  · exact failIn_of_unmapped hr _ left
  · exact landIn_of_unmapped hr _ b fx

/-- Settles O28. -/
theorem unmappedAddressesHoldNothing : Obligations.UnmappedAddressesHoldNothing := by
  intro s h a b hl hg hr _
  refine ⟨fun hw fx hn => ?_, (s.acquire (.wrreg a b)).writeOp a b, ?_, ?_⟩
  · have hread : s.readByte a hw = hw := by simp [State.readByte, hr]
    rw [exec_rdreg_of_ok a hl hg hn, hread]
  · rw [exec_of_reachesBus s h _ hl rfl, s.underGuard_free h _ _ hg]
    rfl
  · exact writeOp_csr_of_unmapped (s := s.acquire (.wrreg a b)) hr b

/-- What a read returns where a write without a soft-reset effect was the last change of the register space: the written
storage bits, and the hardware-driven bits that the chip supplies (R90, R97, R98). -/
theorem readByte_of_landed {p : Params} {m : List Host.Cell} {t : State} {a b : Byte} {r : Reg}
    {fx : List (Reg × Byte)} (hp : t.params = p) (hm : t.csr = landIn p m a b fx) (hr : regAt p a = some r)
    (hf : firesSoftReset p r b = false) (hw : Byte) :
    t.readByte a hw = (b &&& storageMask p r) ||| (hw &&& ~~~ (storageMask p r)) := by
  have hstored : t.storage r = b &&& storageMask p r := by
    rw [State.storage, hp, hm, landIn_of_not_fires hr hf, storedIn_storeIn_same]
  simp only [State.readByte, hp, hr, hstored]

/-- Settles O27: the write leaves its byte in the storage bits of the register, and the read finds them there. -/
theorem readAfterWriteReturnsStorageBits : Obligations.ReadAfterWriteReturnsStorageBits := by
  intro s h a b hw hw' fx fx' r hl hg hr hf h₀ h₁
  refine ⟨_, _, exec_wrreg_of_ok a b hl hg h₀, exec_rdreg_of_ok a hl hg h₁, ?_⟩
  rw [readByte_of_landed ?params ?csr hr hf]
  case params => rfl
  case csr => rfl
  exact List.append_assoc _ _ _

end Sys2Proof.Machine
end

section
namespace Sys2Proof.Machine

/-! ## An operation whose transaction is unanswered -/

/-- In ATTACHED the guard is taken for the requester being served (R23). -/
theorem acquire_of_attached {s : State} {h : Handle} (hl : s.life = .attached h) (i : Instr) :
    s.acquire i = { s with
      life := .attached { h with guard := .held s.caller }, active := some ⟨s.caller, i⟩, cur := none } := by
  simp [State.acquire, State.onHandle, hl]

/-- A write that the transport does not answer stays in flight (R101). -/
theorem writeOp_of_late {s : State} (a b : Byte) (hn : s.nextAnswer = .late) :
    s.writeOp a b = (s.issue (.wr a b)).dropAnswer := by
  rw [State.writeOp, s.xferWrite_late a b hn]
  rfl

/-- An operation with an empty latch and a silent transport rests with its first transaction in flight (R101). -/
theorem bodyOf_of_late {s : State} {i : Instr} (hi : reachesBus s.params i = true) (hc : s.cur = none)
    (hn : s.nextAnswer = .late) :
    ∃ x, expectedTxn s.params i none none = some x ∧ bodyOf i s = (s.issue x).dropAnswer := by
  have ha : i ≠ .attach := by rintro rfl; cases hi
  have hd : i ≠ .detach := by rintro rfl; cases hi
  cases bodyForm i s ha hd with
  | read a f hb hx => exact ⟨_, hx _ _, by rw [hb, State.readOp, s.xferRead_late a hn]; rfl⟩
  | write a v hb hx => exact ⟨_, hx _ _, hb.trans (writeOp_of_late a v hn)⟩
  | modify a j v hb hx => exact ⟨_, hx _ _, by rw [hb, State.rmwOp, hc, s.xferRead_late a hn]; rfl⟩
  | nothing _ hx => exact absurd (hx none none) (expectedTxn_of_reachesBus hi _ _)

/-- A read-modify-write whose read is answered and whose write is not rests with the byte read and the write in flight
(R183, R101). -/
theorem rmwOp_of_write_late {s : State} {a hw : Byte} {fx : List (Reg × Byte)} (j : BitIdx) (v : Bool)
    (hc : s.cur = none) (hn : s.nextAnswer = .ok hw fx) (hn' : s.dropAnswer.nextAnswer = .late) :
    s.rmwOp a j v =
      (((afterTxn s (.rd a) (.read a (some (s.readByte a hw))) s.csr).latch (s.readByte a hw)).issue
        (.wr a (mergeBit (s.readByte a hw) j v))).dropAnswer := by
  rw [State.rmwOp, hc, s.xferRead_ok a hw fx hn]
  exact writeOp_of_late a _ hn'

/-- Settles O18. -/
theorem unansweredTransactionKeepsTheGuard : Obligations.UnansweredTransactionKeepsTheGuard := by
  intro s h i hl hg hi
  have hexec : exec i s = .next (bodyOf i (s.acquire i)) := by
    rw [exec_of_reachesBus s h i hl hi, s.underGuard_free h _ _ hg]
  refine ⟨fun hlate => ?_, fun a hw fx c ht hok hlate hc => ?_⟩
  · obtain ⟨x, hx, hb⟩ := bodyOf_of_late (s := s.acquire i) hi rfl hlate
    refine ⟨x, hx, ?_⟩
    rw [hexec, hb, acquire_of_attached hl]
    rfl
  · subst hc
    obtain ⟨j, v, hb, hx⟩ := bodyOf_of_rmwTarget (s := s.acquire i) ht
    refine ⟨_, hx _ _, ?_⟩
    rw [hexec, hb, rmwOp_of_write_late (s := s.acquire i) j _ rfl hok hlate, acquire_of_attached hl]
    rfl

/-! ## Steps while an operation is in flight -/

/-- A step in which the transport answers lets the operation in flight go on (R101). -/
theorem step_of_answered {s : State} {op : Op} (ha : s.active = some op) (hs : s.silent = false) :
    step s = .next (resume op s) := by
  simp [step, advance, ha, stepBusy, hs]

/-- Outside BRINGUP a step in which the transport is silent looks at the port (R101, R289). -/
theorem step_of_silent {s : State} {op : Op} (ha : s.active = some op) (hs : s.silent = true)
    (hb : s.life.isBringup = false) : step s = serveNext s.dropSilence := by
  simp [step, advance, ha, stepBusy, hs, hb]

/-- In BRINGUP a step in which the transport is silent does nothing (R216). -/
theorem step_of_silent_bringup {s : State} {op : Op} (ha : s.active = some op) (hs : s.silent = true)
    (hb : s.life.isBringup = true) : step s = .next s.dropSilence := by
  simp [step, advance, ha, stepBusy, hs, hb]

/-- Settles O16. -/
theorem silentTransportLetsOtherRequestsBeServed : Obligations.SilentTransportLetsOtherRequestsBeServed := by
  intro s op ha hs
  have hattached {h : Handle} (hl : s.life = .attached h) : step s = serveNext s.dropAnswer := by
    rw [step_of_silent ha hs (by rw [hl]; rfl), s.dropSilence_attached h hl]
  refine ⟨fun h hl => step_of_silent_bringup ha hs (by rw [hl]; rfl), fun h hl hp => ?_,
    fun h r rest i hl hp hd => ?_⟩
  · rw [hattached hl]
    simp [serveNext, hp]
  · rw [hattached hl]
    exact serveNext_of_decode hp hd

/-- The operation in flight, its latch empty, has all that its `acquire` at a free guard would give it (R23, R101). -/
theorem acquire_of_guard_freed {s : State} {h : Handle} {op : Op} (ha : s.active = some op)
    (hl : s.life = .attached h) (hg : h.guard = .held op.tag) (hc : s.cur = none) :
    State.acquire { s with life := .attached { h with guard := .free }, caller := op.tag } op.instr
      = s.serving op.tag := by
  rw [acquire_of_attached rfl]
  simp only [State.serving, ← hg, ← hl, ← ha, ← hc]

/-- Settles O20. -/
theorem delayedOperationActsAsIfIssuedNow : Obligations.DelayedOperationActsAsIfIssuedNow := by
  intro s h op ha hl hg hc hn hi
  have hexec := exec_of_reachesBus { s with life := .attached { h with guard := .free }, caller := op.tag } _
    op.instr rfl hi
  rw [hexec, State.underGuard_free _ _ _ _ rfl, acquire_of_guard_freed ha hl hg hc,
    step_of_answered ha ((s.silent_attached h hl).trans hn), resume_eq]

/-- From `s` to `t` the operation in flight, its transaction, its latch and the registers stay as they are, and no
transaction is recorded (R85, R285). -/
structure Undisturbed (s t : State) : Prop where
  active : t.active = s.active
  txn : t.txn = s.txn
  cur : t.cur = s.cur
  csr : t.csr = s.csr
  history : ∃ es, t.history = s.history ++ es ∧ busEvents es = []

theorem SameCore.undisturbed {s t : State} (h : SameCore s t) : Undisturbed s t :=
  ⟨h.active, h.txn, h.cur, h.csr, [], by simp [h.history], rfl⟩

theorem Undisturbed.trans {s t u : State} (h : Undisturbed s t) (h' : Undisturbed t u) : Undisturbed s u := by
  obtain ⟨es, he, hb⟩ := h.history
  obtain ⟨es', he', hb'⟩ := h'.history
  refine ⟨h'.active.trans h.active, h'.txn.trans h.txn, h'.cur.trans h.cur, h'.csr.trans h.csr, es ++ es', ?_, ?_⟩
  · rw [he', he, List.append_assoc]
  · simp only [busEvents, List.filter_append] at hb hb' ⊢
    rw [hb, hb']
    rfl

theorem respond_undisturbed (s : State) (r : Result) : Undisturbed s (s.respond r) :=
  ⟨rfl, rfl, rfl, rfl, [.response s.caller r], rfl, rfl⟩

/-- While an operation is active an attached handle's guard is held (R23). -/
theorem BusyOk.guard_ne_free {s : State} {op : Op} {h : Handle} (hs : BusyOk s op) (hl : s.life = .attached h) :
    h.guard ≠ .free := by
  rcases hs with ⟨⟨h', hl', hg⟩, -⟩ | ⟨-, -, -, -, -, h', hl', -⟩
  · simp only [hl, Life.handle?, Option.some.injEq] at hl'
    simp [hl', hg]
  · simp [hl] at hl'

/-- A request that is taken up while an operation is active waits for the guard or is answered before it (R23, R289). -/
theorem Executed.undisturbed {i : Instr} {s t : State} {op : Op} (he : Executed i s t) (hs : BusyOk s op) :
    Undisturbed s t := by
  cases he with
  | attaches hi hl => exact absurd hl hs.handle_some
  | answered h hl r => exact respond_undisturbed s r
  | waits h hl q hg => exact ⟨rfl, rfl, rfl, rfl, [], by simp, rfl⟩
  | runs h hl hg hi => exact absurd hg (hs.guard_ne_free hl)

/-- Serving the port while an operation is active does not disturb it (R289). -/
theorem serveNext_undisturbed {s t : State} {op : Op} (hs : GuardOk s) (ha : s.active = some op)
    (ht : serveNext s = .next t) : Undisturbed s t := by
  unfold serveNext at ht
  split at ht
  · rw [Host.Outcome.next.injEq] at ht
    exact ht ▸ (SameCore.refl s).undisturbed
  · rename_i r rest _
    have hu : SameCore s { s with port := rest, caller := r.tag } := .of_eq s _ _ _ _ _ _ _ _
    refine hu.undisturbed.trans ?_
    unfold serveRequest at ht
    split at ht
    · exact (exec_executed ht).undisturbed ((hu.guardOk hs).busy ha)
    · obtain ⟨h, -, rfl⟩ := State.accepted_next _ _ _ ht
      exact respond_undisturbed _ _

/-- A step in which the transport is silent does not disturb the operation in flight (R85, R101, R285). -/
theorem step_undisturbed_of_silent {s t : State} {op : Op} (hs : GuardOk s) (ha : s.active = some op)
    (hsil : s.silent = true) (ht : step s = .next t) : Undisturbed s t := by
  have hdrop : SameCore s s.dropSilence := .dropSilence s
  cases hb : s.life.isBringup with
  | true =>
    rw [step_of_silent_bringup ha hsil hb, Host.Outcome.next.injEq] at ht
    exact ht ▸ hdrop.undisturbed
  | false =>
    rw [step_of_silent ha hsil hb] at ht
    exact hdrop.undisturbed.trans (serveNext_undisturbed (hdrop.guardOk hs) (hdrop.active.trans ha) ht)

/-- Over the steps of a run in which the transport is silent the guard discipline holds on and the operation in flight
is not disturbed (R101). -/
theorem IsRun.undisturbed {run : Nat → State} {op : Op} {n : Nat} (hrun : IsRun run) (hg : GuardOk (run 0))
    (ha : (run 0).active = some op) (hs : ∀ k, k < n → (run k).silent = true) :
    GuardOk (run n) ∧ Undisturbed (run 0) (run n) := by
  induction n with
  | zero => exact ⟨hg, (SameCore.refl _).undisturbed⟩
  | succ n ih =>
    obtain ⟨hgn, hu⟩ := ih fun k hk => hs k (by omega)
    exact ⟨stepKeepsTheGuardDiscipline _ _ hgn (hrun n),
      hu.trans (step_undisturbed_of_silent hgn (hu.active.trans ha) (hs n (by omega)) (hrun n))⟩

/-- Settles O23: the operation goes on at the first moment at which the transport answers. -/
theorem blockedOperationGoesOnWhenAnswered : Obligations.BlockedOperationGoesOnWhenAnswered := by
  intro run op hrun hfair hg ha
  have hex : ∃ m, (run m).silent = false := by
    obtain ⟨m, -, hm⟩ := hfair 0 (by simp [ha])
    exact ⟨m, hm⟩
  have hbefore (k : Nat) (hk : k < Nat.find hex) : (run k).silent = true := by
    simpa using Nat.find_min hex hk
  obtain ⟨-, hu⟩ := hrun.undisturbed hg ha hbefore
  have hactive := hu.active.trans ha
  have hnext := (hrun _).symm.trans (step_of_answered hactive (Nat.find_spec hex))
  exact ⟨Nat.find hex, hactive, Nat.find_spec hex, hu.txn, hu.cur, hu.csr, Host.Outcome.next.inj hnext⟩

end Sys2Proof.Machine
end

section
/-! SUPPORT. The decoder and the encoder, field by field: a row of the opcode table is a condition on the fields, and
the fields in a row select one operation, whose own fields they are. -/

namespace Sys2Proof

/-! ## The rows of the opcode table (R121, R122) -/

/-- The fields are in the row of the operation: they have its `op` and its format (R121, R122). -/
def Instr.InRow : Instr → Fields → Prop
  | .rdreg _, f => f.op = 1#4 ∧ f.isT = true
  | .wrreg _ _, f => f.op = 2#4 ∧ f.isTData = true
  | .getbit _, f => f.op = 3#4 ∧ f.r = 1#1 ∧ f.z = 0#3 ∧ f.v = 0#12
  | .setbit _ _, f => f.op = 4#4 ∧ f.r = 1#1 ∧ f.z = 0#3
  | .getsig _, f => f.op = 5#4 ∧ f.isS = true ∧ f.v = 0#12
  | .setsig _ _, f => f.op = 6#4 ∧ f.isS = true
  | .attach, f => f.op = 8#4 ∧ f.isN = true
  | .detach, f => f.op = 9#4 ∧ f.isN = true

/-- The fields of the bitwise conjunction of two words. -/
def Fields.and (f g : Fields) : Fields where
  op := f.op &&& g.op
  a := f.a &&& g.a
  bit := f.bit &&& g.bit
  r := f.r &&& g.r
  w := f.w &&& g.w
  z := f.z &&& g.z
  v := f.v &&& g.v

theorem Fields.ofWord_and (x y : CmdWord) :
    Fields.ofWord (x &&& y) = (Fields.ofWord x).and (Fields.ofWord y) := by
  simp only [Fields.ofWord, Fields.and, BitVec.extractLsb'_and]

theorem Fields.ofWord_inj {x y : CmdWord} : Fields.ofWord x = Fields.ofWord y ↔ x = y :=
  (Function.LeftInverse.injective Fields.toWord_ofWord).eq_iff

theorem value_and_highNibble (v : Value) : v &&& 0xF00#12 = v.extractLsb' 8 4 ++ 0#8 := by
  calc v &&& 0xF00#12 = (v.extractLsb' 8 4 ++ v.extractLsb' 0 8) &&& (15#4 ++ 0#8) := by
        rw [BitVec.extractLsb'_append_extractLsb']
        rfl
    _ = v.extractLsb' 8 4 ++ 0#8 := by
        rw [BitVec.and_append, BitVec.and_zero]
        exact congrArg (· ++ 0#8) BitVec.and_allOnes

theorem value_and_highNibble_eq_zero_iff (v : Value) : v &&& 0xF00#12 = 0#12 ↔ v.extractLsb' 8 4 = 0#4 := by
  rw [value_and_highNibble]
  exact BitVec.append_left_inj (s₂ := 0#4) (0#8)

/-- A word matches the mask and match of a row exactly when its fields have the row's `op` and format (R122). -/
theorem matchesRow_iff (cw : CmdWord) (i : Instr) :
    cw &&& i.rowMask = i.rowMatch ↔ i.InRow (Fields.ofWord cw) := by
  rw [← Fields.ofWord_inj, Fields.ofWord_and]
  generalize Fields.ofWord cw = f
  have hop : f.op &&& 15#4 = f.op := BitVec.and_allOnes
  have ha : f.a &&& 255#8 = f.a := BitVec.and_allOnes
  have hbit : f.bit &&& 7#3 = f.bit := BitVec.and_allOnes
  have hr : f.r &&& 1#1 = f.r := BitVec.and_allOnes
  have hw : f.w &&& 1#1 = f.w := BitVec.and_allOnes
  have hz : f.z &&& 7#3 = f.z := BitVec.and_allOnes
  have hv : f.v &&& 4095#12 = f.v := BitVec.and_allOnes
  cases i <;> simp only [Instr.rowMask, Instr.rowMatch, Instr.InRow] <;>
    simp [Fields.ofWord, Fields.and, Fields.isN, Fields.isS, Fields.isT, Fields.isTData, and_assoc,
      value_and_highNibble_eq_zero_iff, hop, ha, hbit, hr, hw, hz, hv]

theorem Instr.InRow.op_eq {i : Instr} {f : Fields} (h : i.InRow f) : f.op = i.fields.op := by
  cases i <;> exact h.1

/-- The `match` of a row is its `op` and, in format D, the readable bit (R122). -/
def matchOfOp (op : BitVec 4) : CmdWord :=
  op ++ (if op = 3#4 ∨ op = 4#4 then 0x0010000#28 else 0#28)

theorem Instr.rowMatch_eq (i : Instr) : i.rowMatch = matchOfOp i.fields.op := by
  cases i <;> simp [Instr.rowMatch, Instr.fields, matchOfOp]

/-! ## The operation that the fields select (R121 to R123) -/

/-- The fields `f` are in a row of the opcode table and the operation is that row's, with its operands read from `f`
(R121 to R123). -/
inductive Fields.Selects (f : Fields) : Instr → Prop
  | rdreg (h : (Instr.rdreg f.a).InRow f) : Selects f (.rdreg f.a)
  | wrreg (h : (Instr.wrreg f.a (f.v.extractLsb' 0 8)).InRow f) : Selects f (.wrreg f.a (f.v.extractLsb' 0 8))
  | getbit (h : (Instr.getbit f.descriptor).InRow f) : Selects f (.getbit f.descriptor)
  | setbit (h : (Instr.setbit f.descriptor f.v).InRow f) : Selects f (.setbit f.descriptor f.v)
  | getsig {g : Signal} (h : (Instr.getsig g).InRow f) (hg : Signal.ofSid f.a = some g) : Selects f (.getsig g)
  | setsig {g : Signal} (h : (Instr.setsig g f.v).InRow f) (hg : Signal.ofSid f.a = some g) :
      Selects f (.setsig g f.v)
  | attach (h : Instr.attach.InRow f) : Selects f .attach
  | detach (h : Instr.detach.InRow f) : Selects f .detach

variable {f : Fields} {i : Instr}

theorem Fields.Selects.inRow (h : f.Selects i) : i.InRow f := by
  cases h <;> assumption

theorem decode_of_getsig_row {g : Signal} (h : (Instr.getsig g).InRow f) : f.decode = withSignal f.a .getsig := by
  obtain ⟨hop, hS, hv⟩ := h
  simp [Fields.decode, hop, hS, hv]

theorem decode_of_setsig_row {g : Signal} {v : Value} (h : (Instr.setsig g v).InRow f) :
    f.decode = withSignal f.a fun g => .setsig g f.v := by
  obtain ⟨hop, hS⟩ := h
  simp [Fields.decode, hop, hS]

theorem withSignal_of_some {sid : Byte} {g : Signal} (hg : Signal.ofSid sid = some g) (k : Signal → Instr) :
    withSignal sid k = .ok (k g) := by
  rw [withSignal, hg]

theorem withSignal_of_none {sid : Byte} (hg : Signal.ofSid sid = none) (k : Signal → Instr) :
    withSignal sid k = .error .uncataloguedSid := by
  rw [withSignal, hg]

theorem withSignal_eq_ok {sid : Byte} {k : Signal → Instr} (h : withSignal sid k = .ok i) :
    ∃ g : Signal, Signal.ofSid sid = some g ∧ k g = i := by
  cases hg : Signal.ofSid sid with
  | none => simp [withSignal_of_none hg] at h
  | some g => exact ⟨g, rfl, by simpa [withSignal_of_some hg] using h⟩

theorem ite_ok_error_eq_ok {c : Prop} [Decidable c] {j : Instr} {e : DecodeError}
    (h : (if c then Except.ok j else .error e) = .ok i) : c ∧ j = i := by
  split at h <;> simp_all

theorem eq_one_of_ne_zero : ∀ x : BitVec 1, ¬ x = 0#1 → x = 1#1 := by
  decide

/-- The fields decode to the operation they select (R123). -/
theorem Fields.Selects.decode (h : f.Selects i) : f.decode = .ok i := by
  cases h with
  | rdreg h | wrreg h | attach h | detach h =>
    obtain ⟨hop, hformat⟩ := h
    simp [Fields.decode, hop, hformat]
  | getbit h =>
    obtain ⟨hop, hr, hz, hv⟩ := h
    simp [Fields.decode, hop, hr, hz, hv]
  | setbit h =>
    obtain ⟨hop, hr, hz⟩ := h
    simp [Fields.decode, hop, hr, hz]
  | getsig h hg => rw [decode_of_getsig_row h, withSignal_of_some hg]
  | setsig h hg => rw [decode_of_setsig_row h, withSignal_of_some hg]

/-- What is decoded from fields is the operation they select (R123). -/
theorem Fields.selects_of_decode (h : f.decode = .ok i) : f.Selects i := by
  have hop {k : Nat} (hk : f.op.toNat = k) : f.op = BitVec.ofNat 4 k := by simp [← hk]
  unfold Fields.decode at h
  split at h
  case h_1 h1 =>
    obtain ⟨hT, rfl⟩ := ite_ok_error_eq_ok h
    exact .rdreg ⟨hop h1, hT⟩
  case h_2 h2 =>
    obtain ⟨hT, rfl⟩ := ite_ok_error_eq_ok h
    exact .wrreg ⟨hop h2, hT⟩
  case h_3 h3 =>
    split at h
    · cases h
    next hr =>
      obtain ⟨⟨hz, hv⟩, rfl⟩ := ite_ok_error_eq_ok h
      exact .getbit ⟨hop h3, eq_one_of_ne_zero _ hr, hz, hv⟩
  case h_4 h4 =>
    split at h
    · cases h
    next hr =>
      obtain ⟨hz, rfl⟩ := ite_ok_error_eq_ok h
      exact .setbit ⟨hop h4, eq_one_of_ne_zero _ hr, hz⟩
  case h_5 h5 =>
    split at h
    next hS =>
      obtain ⟨g, hg, rfl⟩ := withSignal_eq_ok h
      exact .getsig ⟨hop h5, by simpa using hS⟩ hg
    · cases h
  case h_6 h6 =>
    split at h
    next hS =>
      obtain ⟨g, hg, rfl⟩ := withSignal_eq_ok h
      exact .setsig ⟨hop h6, hS⟩ hg
    · cases h
  case h_7 h8 =>
    obtain ⟨hN, rfl⟩ := ite_ok_error_eq_ok h
    exact .attach ⟨hop h8, hN⟩
  case h_8 h9 =>
    obtain ⟨hN, rfl⟩ := ite_ok_error_eq_ok h
    exact .detach ⟨hop h9, hN⟩
  case h_9 => cases h

theorem Fields.decode_of_unassigned (h : f.op.toNat ∈ [0x0, 0x7, 0xA, 0xB, 0xC, 0xD, 0xE, 0xF]) :
    f.decode = .error .unassignedOp := by
  unfold Fields.decode
  split
  case h_9 => rfl
  all_goals simp_all

/-! ## Decoding and encoding are inverse (R133) -/

/-- Stage 2 finds a signal exactly under its own id (R123, R126). -/
theorem Signal.sid_of_ofSid {sid : Byte} {g : Signal} (h : Signal.ofSid sid = some g) : g.sid = sid := by
  simpa [h] using Signal.sid_ofSid sid

theorem flagBit_beq_one : ∀ x : BitVec 1, flagBit (x == 1#1) = x := by
  decide

theorem Fields.Selects.wellFormed (h : f.Selects i) : i.WellFormed := by
  cases h with
  | getbit h | setbit h => simp [Instr.WellFormed, Instr.wellFormed, Fields.descriptor, h.2.1]
  | _ => rfl

/-- The fields that select an operation are the operation's own (R121, R122). -/
theorem Fields.Selects.fields_eq (h : f.Selects i) : i.fields = f := by
  obtain ⟨op, a, bit, r, w, z, v⟩ := f
  cases h with
  | rdreg h => simp_all [Instr.InRow, Instr.fields, Fields.isT]
  | wrreg h =>
    simp only [Instr.InRow, Fields.isTData, Bool.and_eq_true, beq_iff_eq] at h
    obtain ⟨rfl, ⟨⟨⟨rfl, rfl⟩, rfl⟩, rfl⟩, hv⟩ := h
    rw [Instr.fields, ← hv, BitVec.extractLsb'_append_extractLsb']
  | getbit h | setbit h =>
    simp only [Instr.fields, Fields.descriptor, flagBit_beq_one]
    simp_all [Instr.InRow]
  | getsig h hg | setsig h hg => simp_all [Instr.InRow, Instr.fields, Fields.isS, Signal.sid_of_ofSid hg]
  | attach h | detach h => simp_all [Instr.InRow, Instr.fields, Fields.isN]

/-- The fields of a well-formed operation decode to it (R121 to R123). -/
theorem Instr.decode_fields (h : i.WellFormed) : i.fields.decode = .ok i := by
  cases i with
  | rdreg a => rfl
  | wrreg a b =>
    have hhigh : (0#4 ++ b).extractLsb' 8 4 = 0#4 := BitVec.extractLsb'_append_eq_left
    have hlow : (0#4 ++ b).extractLsb' 0 8 = b := BitVec.extractLsb'_append_eq_right
    simp [Fields.decode, Instr.fields, Fields.isTData, hhigh, hlow]
  | getbit d | setbit d v =>
    obtain ⟨reg, bit, readable, writable⟩ := d
    obtain rfl : readable = true := h
    cases writable <;> rfl
  | getsig g => exact withSignal_of_some g.ofSid_sid _
  | setsig g v => exact withSignal_of_some g.ofSid_sid fun g => .setsig g v
  | attach => rfl
  | detach => rfl

/-- Settles O1: a valid word has the fields of the operation it selects, and those are a word's only content. -/
theorem encodeAndDecodeAreInverse : Obligations.EncodeAndDecodeAreInverse := by
  refine ⟨fun i hi => ?_, fun cw i h => ?_⟩
  · rw [decode, encode, Fields.ofWord_toWord, Instr.decode_fields hi]
  · have hsel : (Fields.ofWord cw).Selects i := Fields.selects_of_decode h
    exact ⟨hsel.wellFormed, by rw [encode, hsel.fields_eq, Fields.toWord_ofWord]⟩

end Sys2Proof
end

section
namespace Sys2Proof

/-! ## The words of each row (R122, R123) -/

/-- The descriptor of a readable format D word (R121). -/
theorem Fields.descriptor_ofWord {cw : CmdWord} (hr : (Fields.ofWord cw).r = 1#1) :
    (Fields.ofWord cw).descriptor = ⟨cw.extractLsb' 20 8, cw.extractLsb' 17 3, true, cw.getLsbD 15⟩ := by
  simp only [Fields.descriptor, hr, BitVec.getLsbD_eq_extractLsb']
  rfl

/-- Rows that one word matches are the same row, since the word has the `op` of both (R122). -/
theorem rowMatch_unique {cw : CmdWord} {i j : Instr} (hi : cw &&& i.rowMask = i.rowMatch)
    (hj : cw &&& j.rowMask = j.rowMatch) : i.rowMatch = j.rowMatch := by
  have hop : i.fields.op = j.fields.op :=
    ((matchesRow_iff cw i).mp hi).op_eq.symm.trans ((matchesRow_iff cw j).mp hj).op_eq
  rw [i.rowMatch_eq, j.rowMatch_eq, hop]

/-- Settles O2: matching a row is being in it, and the fields in a row select its operation. -/
theorem opcodeRowsSelectOperations : Obligations.OpcodeRowsSelectOperations := by
  have inRow {cw : CmdWord} (i : Instr) (h : cw &&& i.rowMask = i.rowMatch) : i.InRow (Fields.ofWord cw) :=
    (matchesRow_iff cw i).mp h
  refine ⟨?valid, ?rdreg, ?wrreg, ?getbit, ?setbit, ?getsig, ?setsig, ?attach, ?detach, ?disjoint, ?unassigned⟩
  case valid => exact fun cw i h => (matchesRow_iff cw i).mpr (Fields.selects_of_decode h).inRow
  case rdreg => exact fun cw h => (Fields.Selects.rdreg (inRow (.rdreg _) h)).decode
  case wrreg =>
    intro cw h
    have hdata : (Fields.ofWord cw).v.extractLsb' 0 8 = cw.extractLsb' 0 8 :=
      BitVec.extractLsb'_extractLsb'_of_le (by decide)
    exact hdata ▸ (Fields.Selects.wrreg (inRow (.wrreg _ _) h)).decode
  case getbit =>
    intro cw h
    have hrow := inRow (.getbit (Fields.ofWord cw).descriptor) h
    exact Fields.descriptor_ofWord hrow.2.1 ▸ (Fields.Selects.getbit hrow).decode
  case setbit =>
    intro cw h
    have hrow := inRow (.setbit (Fields.ofWord cw).descriptor (Fields.ofWord cw).v) h
    exact Fields.descriptor_ofWord hrow.2.1 ▸ (Fields.Selects.setbit hrow).decode
  case getsig =>
    intro cw h
    have hd : decode cw = withSignal (cw.extractLsb' 20 8) .getsig :=
      decode_of_getsig_row (inRow (.getsig .scratch) h)
    exact ⟨fun g hg => hd.trans (withSignal_of_some hg _), fun hg => hd.trans (withSignal_of_none hg _)⟩
  case setsig =>
    intro cw h
    have hd : decode cw = withSignal (cw.extractLsb' 20 8) fun g => .setsig g (cw.extractLsb' 0 12) :=
      decode_of_setsig_row (inRow (.setsig .scratch 0#12) h)
    exact ⟨fun g hg => hd.trans (withSignal_of_some hg _), fun hg => hd.trans (withSignal_of_none hg _)⟩
  case attach => decide
  case detach => decide
  case disjoint => exact fun cw i j => rowMatch_unique
  case unassigned => exact fun cw h => Fields.decode_of_unassigned h

/-- Settles O3. -/
theorem printedWordsDecodeAsPrinted : Obligations.PrintedWordsDecodeAsPrinted := by
  unfold Obligations.PrintedWordsDecodeAsPrinted
  decide

/-! ## The signal catalogue (R126) -/

theorem Signal.sid_injective : Function.Injective Signal.sid := fun g g' h =>
  Option.some.inj (by rw [← g.ofSid_sid, h, g'.ofSid_sid])

/-- Of the 256 ids, 96 are catalogued (R126, C4). -/
theorem catalogued_count :
    ((List.range 256).filter fun n => (Signal.ofSid (BitVec.ofNat 8 n)).isSome).length = 96 :=
  rfl

/-- Settles O4. -/
theorem catalogueHasNinetySixSignals : Obligations.CatalogueHasNinetySixSignals :=
  ⟨fun _ _ h => Signal.sid_injective h, catalogued_count⟩

/-- The id of a module signal (R126). -/
theorem Signal.sid_qsfp_toNat (g : ModGroup) (k : Fin 16) : (Signal.qsfp g k).sid.toNat = 16 * g.grp + k.val := by
  cases g <;> simp [Signal.sid, ModGroup.grp] <;> omega

/-- Settles O6. -/
theorem signalTableColumns : Obligations.SignalTableColumns := by
  refine ⟨?ids, by decide, fun _ => rfl, fun p => ?columns⟩
  case ids =>
    refine ⟨rfl, rfl, rfl, rfl, rfl, by decide, rfl, rfl, rfl, by decide, rfl, fun k => ?_⟩
    exact ⟨Signal.sid_qsfp_toNat .rst k, Signal.sid_qsfp_toNat .lpmode k, Signal.sid_qsfp_toNat .modsel k,
      Signal.sid_qsfp_toNat .prs k, Signal.sid_qsfp_toNat .int k⟩
  case columns =>
    exact ⟨fun _ => ⟨rfl, rfl⟩, ⟨rfl, rfl, rfl, rfl⟩, fun _ => rfl, ⟨rfl, rfl⟩, ⟨rfl, rfl⟩, ⟨rfl, rfl⟩,
      ⟨rfl, rfl, rfl, rfl, rfl, rfl⟩, fun _ => rfl, rfl, fun _ => ⟨rfl, rfl, rfl, rfl, rfl⟩⟩

end Sys2Proof
end

section
namespace Sys2Proof.Machine

/-! ## Operand domains (R125) -/

theorem inBitDomain_iff (v : Value) : inBitDomain v = true ↔ v.toNat ≤ 1 := by
  simp [inBitDomain]

theorem inSigDomain_iff (p : Params) (g : Signal) (v : Value) : inSigDomain p g v = true ↔ v.toNat ≤ sigMax p g := by
  simp [inSigDomain]

theorem sigMax_of_bit {p : Params} {g : Signal} {r : Reg} {i : BitIdx} (hk : sigKind p g = .bit r i) :
    sigMax p g = 1 := by
  rw [sigMax, hk]

/-- The number that two fields side by side stand for. -/
theorem toNat_append_eq_add {m n : Nat} (x : BitVec m) (y : BitVec n) :
    (x ++ y).toNat = x.toNat * 2 ^ n + y.toNat := by
  rw [BitVec.toNat_append, ← Nat.shiftLeft_add_eq_or_of_lt y.isLt, Nat.shiftLeft_eq]

/-- The value field of a WRREG word holds a byte (R121). -/
theorem value_toNat_le_of_wrreg {i : Instr} (hop : i.fields.op = 2#4) : i.fields.v.toNat ≤ 255 := by
  cases i with
  | wrreg a b =>
    have hb : (0#4 ++ b).toNat = 0 * 2 ^ 8 + b.toNat := toNat_append_eq_add 0#4 b
    change (0#4 ++ b).toNat ≤ 255
    omega
  | _ => simp [Instr.fields] at hop

/-- The operations without a value operand have a value field of zero (R125). -/
theorem value_eq_zero_of_op {i : Instr} (hop : i.fields.op ∈ [1#4, 3#4, 5#4, 8#4, 9#4]) : i.fields.v = 0#12 := by
  cases i with
  | rdreg | getbit | getsig | attach | detach => rfl
  | wrreg | setbit | setsig => simp [Instr.fields] at hop

/-- A word is invalid where no operation has its fields (R123, R124). -/
theorem exists_error_of_fields_ne {cw : CmdWord} (h : ∀ i : Instr, i.fields ≠ Fields.ofWord cw) :
    ∃ e, decode cw = .error e := by
  cases hd : decode cw with
  | error e => exact ⟨e, rfl⟩
  | ok i => exact absurd (Fields.selects_of_decode hd).fields_eq (h i)

/-- Settles O7. -/
theorem operandDomains : Obligations.OperandDomains := by
  refine ⟨inBitDomain_iff, fun p g v r i hk => ?_, fun p v => ?_, fun cw => ⟨fun hop hv => ?_, fun hop hv => ?_⟩⟩
  · rw [inSigDomain_iff, sigMax_of_bit hk]
  · exact ⟨inSigDomain_iff p _ v, inSigDomain_iff p _ v, inSigDomain_iff p _ v, inSigDomain_iff p _ v,
      inSigDomain_iff p _ v, inSigDomain_iff p _ v⟩
  · refine exists_error_of_fields_ne fun i hi => ?_
    have hle := value_toNat_le_of_wrreg (i := i) (by rw [hi]; exact hop)
    rw [hi] at hle
    exact absurd hle (Nat.not_le.mpr hv)
  · refine exists_error_of_fields_ne fun i hi => hv ?_
    have hzero := value_eq_zero_of_op (i := i) (by rw [hi]; exact hop)
    rwa [hi] at hzero

/-! ## The words that leave the core (R127 to R129) -/

theorem Result.word_toNat (r : Result) : r.word.toNat = r.status.toNat * 2 ^ 8 + r.data.toNat := by
  have hstatus : (0#4 ++ r.status).toNat = 0 * 2 ^ 4 + r.status.toNat := toNat_append_eq_add 0#4 _
  have hword : r.word.toNat = (0#4 ++ r.status).toNat * 2 ^ 8 + r.data.toNat := toNat_append_eq_add _ _
  rw [hword, hstatus, Nat.zero_mul, Nat.zero_add]

theorem Diag.word_toNat (d : Diag) : d.word.toNat = d.dir.bit.toNat * 2 ^ 8 + d.addr.toNat :=
  toNat_append_eq_add _ _

theorem Result.word_fields (r : Result) : r.word.extractLsb' 12 4 = 0#4 ∧ r.word.extractLsb' 8 4 = r.status
    ∧ r.word.extractLsb' 0 8 = r.data := by
  refine ⟨?_, ?_, BitVec.extractLsb'_append_eq_right⟩ <;>
    rw [Result.word, BitVec.extractLsb'_append_eq_of_le (by decide)]
  · exact BitVec.extractLsb'_append_eq_left
  · exact BitVec.extractLsb'_append_eq_right

/-- Settles O11. -/
theorem outputWordsHaveTheirFields : Obligations.OutputWordsHaveTheirFields := by
  refine ⟨Result.word_fields, rfl, fun b => ?_, fun b => ?_, rfl, rfl, rfl, rfl, rfl, fun a => ⟨?_, ?_⟩⟩
  · simp [Result.word_toNat, Result.status, Result.data]
  · cases b <;> rfl
  · simp [Diag.word_toNat, Dir.bit]
  · simp [Diag.word_toNat, Dir.bit]

/-! ## Invalid words at the port (R124) -/

/-- In ATTACHED an invalid word at the head of the port is taken and answered IllegalRequest (R124). -/
theorem serveNext_of_invalid {s : State} {r : Request} {rest : List Request} {e : DecodeError} {h : Handle}
    (hp : s.port = r :: rest) (hd : decode r.word = .error e) (hl : s.life = .attached h) :
    serveNext s = .next (State.respond { s with port := rest, caller := r.tag } .illegalRequest) := by
  simp only [serveNext, hp, serveRequest, hd, illegalRequest]
  exact State.accepted_attached _ h _ hl

/-- Settles O13. -/
theorem invalidWordIsAnsweredIllegalRequest : Obligations.InvalidWordIsAnsweredIllegalRequest := by
  intro s r rest e h hp hd hl
  refine ⟨fun ha hw => ?_, fun op ha hlate => ?_⟩
  · rw [step_of_waiting_nil ha hw]
    exact serveNext_of_invalid hp hd hl
  · have hsilent : s.silent = true := by rw [s.silent_attached h hl, hlate]; rfl
    rw [step_of_silent ha hsilent (by rw [hl]; rfl), s.dropSilence_attached h hl]
    exact serveNext_of_invalid hp hd hl

end Sys2Proof.Machine
end

section
/-! SUPPORT. What the operations of a requester leave unchanged, said once: no operation but ATTACH and DETACH touches
more than the register it stores to, the guard, the diagnostic list and the sequencing state of its own. -/

namespace Sys2Proof.Machine

/-! ## What a store to one register leaves unchanged -/

/-- From `m` to `m'` the register space changes at most at the target `o`, where `o` is not the soft-reset register with
an effect configured; without a target it does not change (R98, R99). -/
def StoresOnlyAt (p : Params) (o : Option Byte) (m m' : List Host.Cell) : Prop :=
  (∀ a, o = some a → (regAt p a = some .softRst → p.softRstEffect = .identity) →
    ∀ x : Byte, x ≠ a → Memory.read m' x.toNat = Memory.read m x.toNat)
  ∧ (o = none → m' = m)

theorem StoresOnlyAt.refl (p : Params) (o : Option Byte) (m : List Host.Cell) : StoresOnlyAt p o m m :=
  ⟨fun _ _ _ _ _ => rfl, fun _ => rfl⟩

theorem StoresOnlyAt.trans {p : Params} {o : Option Byte} {m m' m'' : List Host.Cell}
    (h : StoresOnlyAt p o m m') (h' : StoresOnlyAt p o m' m'') : StoresOnlyAt p o m m'' :=
  ⟨fun a ho he x hx => (h'.1 a ho he x hx).trans (h.1 a ho he x hx), fun ho => (h'.2 ho).trans (h.2 ho)⟩

theorem storesOnlyAt_landIn (p : Params) (m : List Host.Cell) (a b : Byte) (fx : List (Reg × Byte)) :
    StoresOnlyAt p (some a) m (landIn p m a b fx) := by
  refine ⟨?_, nofun⟩
  rintro _ ⟨⟩ he x hx
  refine read_landIn_other (fun r hr => ?_) hx m fx
  by_cases hs : r = .softRst
  · exact not_firesSoftReset hr (.inl (he (hs ▸ hr)))
  · simp [firesSoftReset, hs]

theorem storesOnlyAt_failIn (p : Params) (m : List Host.Cell) (a left : Byte) :
    StoresOnlyAt p (some a) m (failIn p m a left) := by
  refine ⟨?_, nofun⟩
  rintro _ ⟨⟩ - x hx
  exact read_failIn_other hx m left

/-! ## The frame of an operation of a requester -/

/-- From `s` to `t` the machine stores to the target `o` at most and leaves the parameters, the bring-up pointer, the
requests at the port, the inputs other than the transport's answers, the requester being served, the lifecycle state,
the identity cells and the endpoint as they are (R98, R99, R168). -/
structure Confined (o : Option Byte) (s t : State) : Prop where
  csr : StoresOnlyAt s.params o s.csr t.csr
  params : t.params = s.params
  bstep : t.bstep = s.bstep
  port : t.port = s.port
  bindings : t.bindings = s.bindings
  caps : t.caps = s.caps
  grants : t.grants = s.grants
  caller : t.caller = s.caller
  life : ∃ f, t.life = s.life.onHandle f ∧ ∀ h, (f h).ident = h.ident ∧ (f h).endpoint = h.endpoint

theorem Confined.trans {o : Option Byte} {s t u : State} (h : Confined o s t) (h' : Confined o t u) :
    Confined o s u where
  csr := h.csr.trans (h.params ▸ h'.csr)
  params := h'.params.trans h.params
  bstep := h'.bstep.trans h.bstep
  port := h'.port.trans h.port
  bindings := h'.bindings.trans h.bindings
  caps := h'.caps.trans h.caps
  grants := h'.grants.trans h.grants
  caller := h'.caller.trans h.caller
  life := by
    obtain ⟨f, hl, hf⟩ := h.life
    obtain ⟨g, hl', hg⟩ := h'.life
    refine ⟨fun h => g (f h), by rw [hl', hl, onHandle_onHandle], fun h => ?_⟩
    exact ⟨(hg (f h)).1.trans (hf h).1, (hg (f h)).2.trans (hf h).2⟩

section
variable {o : Option Byte} {s : State} {c : Option Byte} {ph : Phase} {ac : Option Op} {x : Option Txn} {w : List Op}
  {b : List BusAnswer} {n : Nat} {es : List Event}

/-- A store, and a change of the sequencing state, the transport's answers, what waits and the history. -/
theorem Confined.of_store {m : List Host.Cell} (hm : StoresOnlyAt s.params o s.csr m) :
    Confined o s { s with
      csr := m, cur := c, phase := ph, active := ac, txn := x, waiting := w, bus := b, draws := n, history := es } where
  csr := hm
  params := rfl
  bstep := rfl
  port := rfl
  bindings := rfl
  caps := rfl
  grants := rfl
  caller := rfl
  life := ⟨fun h => h, (onHandle_id _).symm, fun _ => ⟨rfl, rfl⟩⟩

/-- A change of the handle's guard and diagnostic list, the sequencing state and the history. -/
theorem Confined.of_onHandle {f : Handle → Handle}
    (hf : ∀ h, (f h).ident = h.ident ∧ (f h).endpoint = h.endpoint) :
    Confined o s { s with
      life := s.life.onHandle f, cur := c, phase := ph, active := ac, txn := x, history := es } where
  csr := .refl _ _ _
  params := rfl
  bstep := rfl
  port := rfl
  bindings := rfl
  caps := rfl
  grants := rfl
  caller := rfl
  life := ⟨f, rfl, hf⟩

/-- A change of the sequencing state, the transport's answers, what waits and the history only. -/
theorem Confined.of_eq : Confined o s { s with
    cur := c, phase := ph, active := ac, txn := x, waiting := w, bus := b, draws := n, history := es } :=
  .of_store (.refl _ _ _)

end

theorem acquire_confined (o : Option Byte) (s : State) (i : Instr) : Confined o s (s.acquire i) :=
  .of_onHandle fun _ => ⟨rfl, rfl⟩

theorem addDiag_confined (o : Option Byte) (s : State) (d : Diag) : Confined o s (s.addDiag d) :=
  .of_onHandle fun _ => ⟨rfl, rfl⟩

theorem finish_confined (o : Option Byte) (s : State) (r : Result) : Confined o s (s.finish r) :=
  .of_onHandle fun _ => ⟨rfl, rfl⟩

theorem afterTxn_confined {o : Option Byte} {s : State} {m : List Host.Cell}
    (hm : StoresOnlyAt s.params o s.csr m) (x : Txn) (e : Event) : Confined o s (afterTxn s x e m) :=
  .of_store hm

/-- An operation that ends with a successful transaction. -/
theorem finish_afterTxn_confined {o : Option Byte} {s : State} {m : List Host.Cell}
    (hm : StoresOnlyAt s.params o s.csr m) (x : Txn) (e : Event) (r : Result) :
    Confined o s ((afterTxn s x e m).finish r) :=
  (afterTxn_confined hm x e).trans (finish_confined _ _ _)

/-- An operation that ends with a failed transaction. -/
theorem finish_addDiag_confined {o : Option Byte} {s : State} {m : List Host.Cell}
    (hm : StoresOnlyAt s.params o s.csr m) (x : Txn) (e : Event) (d : Diag) (r : Result) :
    Confined o s (((afterTxn s x e m).addDiag d).finish r) :=
  ((afterTxn_confined hm x e).trans (addDiag_confined _ _ d)).trans (finish_confined _ _ _)

theorem readOp_confined (o : Option Byte) (s : State) (a : Byte) (f : Byte → Result) :
    Confined o s (s.readOp a f) := by
  obtain ⟨-, h⟩ | ⟨left, -, h⟩ | ⟨hw, fx, -, h⟩ := s.readOp_cases a f <;> rw [h]
  · exact .of_eq
  · exact finish_addDiag_confined (.refl _ _ _) _ _ _ _
  · exact finish_afterTxn_confined (.refl _ _ _) _ _ _

theorem writeOp_confined (s : State) (a b : Byte) : Confined (some a) s (s.writeOp a b) := by
  obtain ⟨-, h⟩ | ⟨left, -, h⟩ | ⟨hw, fx, -, h⟩ := s.writeOp_cases a b <;> rw [h]
  · exact .of_eq
  · exact finish_addDiag_confined (storesOnlyAt_failIn _ _ _ _) _ _ _ _
  · exact finish_afterTxn_confined (storesOnlyAt_landIn _ _ _ _ _) _ _ _

/-- Of the two transactions of a read-modify-write only the second stores, at the same address (R183). -/
theorem rmwOp_confined (s : State) (a : Byte) (j : BitIdx) (v : Bool) : Confined (some a) s (s.rmwOp a j v) := by
  cases hc : s.cur with
  | some c =>
    rw [s.rmwOp_latched a j v c hc]
    exact writeOp_confined s a _
  | none =>
    obtain ⟨-, h⟩ | ⟨left, -, h⟩ | ⟨hw, fx, -, h⟩ := s.rmwOp_cases a j v hc <;> rw [h]
    · exact .of_eq
    · exact finish_addDiag_confined (.refl _ _ _) _ _ _ _
    · have hread := afterTxn_confined (.refl s.params (some a) s.csr) (.rd a) (.read a (some (s.readByte a hw)))
      exact (hread.trans .of_eq).trans (writeOp_confined _ a _)

/-- The write that a read-modify-write has in flight is at its own address (R183). -/
theorem eq_of_rmwTxn_eq_wr {c : Option Byte} {a a' v : Byte} {j : BitIdx} {w : Value}
    (h : rmwTxn c a' j w = .wr a v) : a' = a := by
  cases c with
  | none => cases h
  | some c => cases h; rfl

/-- An operation of a requester that is expected to have a write in flight stores to the address of that write (R163,
R183, R185). -/
theorem storeTarget_of_expectedTxn {p : Params} {i : Instr} {c : Option Byte} {b : Option BStep} {a v : Byte}
    (ha : i ≠ .attach) (hx : expectedTxn p i c b = some (.wr a v)) : storeTarget p i = some a := by
  cases i with
  | wrreg a' x => cases hx; rfl
  | setbit d w => exact congrArg some (eq_of_rmwTxn_eq_wr (Option.some.inj hx))
  | setsig g w =>
    cases hk : sigKind p g with
    | bit r j =>
      have hx : rmwTxn c (addrOf p r) j w = .wr a v := by simpa [expectedTxn, hk] using hx
      simpa [storeTarget, hk] using eq_of_rmwTxn_eq_wr hx
    | byte r =>
      obtain ⟨hr, -⟩ : addrOf p r = a ∧ valueByte w = v := by simpa [expectedTxn, hk] using hx
      simpa [storeTarget, hk] using hr
    | ident f => simp [expectedTxn, hk] at hx
  | getsig g => cases hk : sigKind p g <;> simp [expectedTxn, hk] at hx
  | attach => exact absurd rfl ha
  | rdreg | getbit | detach => cases hx

/-- From its `acquire` onward an operation of a requester stays within its frame. -/
theorem bodyOf_confined (i : Instr) (s : State) (ha : i ≠ .attach) (hd : i ≠ .detach) :
    Confined (storeTarget s.params i) s (bodyOf i s) := by
  cases bodyForm i s ha hd with
  | read a f hb _ => exact hb ▸ readOp_confined _ s a f
  | write a v hb hx =>
    rw [hb, storeTarget_of_expectedTxn ha (hx none none)]
    exact writeOp_confined s a v
  | modify a j v hb hx =>
    rw [hb, storeTarget_of_expectedTxn ha (hx (some 0#8) none)]
    exact rmwOp_confined s a j _
  | nothing hb _ => exact hb.symm ▸ .of_eq

/-- An operation of a requester that answers a next state was accepted in ATTACHED and stayed within its frame (R24,
R168). -/
theorem exec_confined {i : Instr} {s t : State} (ht : exec i s = .next t) (ha : i ≠ .attach) (hd : i ≠ .detach) :
    (∃ h, s.life = .attached h) ∧ Confined (storeTarget s.params i) s t := by
  cases exec_executed ht with
  | attaches hi _ => exact absurd hi ha
  | answered h hl r => exact ⟨⟨h, hl⟩, .of_eq⟩
  | waits h hl q _ => exact ⟨⟨h, hl⟩, .of_eq⟩
  | runs h hl _ _ => exact ⟨⟨h, hl⟩, (acquire_confined _ s i).trans (bodyOf_confined i (s.acquire i) ha hd)⟩

/-- An attached handle stays attached, with its identity cells and its endpoint (R22, R24). -/
theorem Confined.attached {o : Option Byte} {s t : State} (hc : Confined o s t) (hl : ∃ h, s.life = .attached h) :
    ∃ h h', s.life = .attached h ∧ t.life = .attached h' ∧ h'.ident = h.ident ∧ h'.endpoint = h.endpoint := by
  obtain ⟨h, hl⟩ := hl
  obtain ⟨f, hf, hkeep⟩ := hc.life
  exact ⟨h, f h, hl, by rw [hf, hl, onHandle_attached], hkeep h⟩

/-- Settles O47: an operation without a store target stays within its frame, and so stores nothing. -/
theorem readOperationsFrame : Obligations.ReadOperationsFrame := by
  intro s t i hi ht
  obtain ⟨ha, hd, hnone⟩ : i ≠ .attach ∧ i ≠ .detach ∧ storeTarget s.params i = none := by
    rcases hi with ⟨a, rfl⟩ | ⟨d, rfl⟩ | ⟨g, rfl⟩ <;> exact ⟨nofun, nofun, rfl⟩
  obtain ⟨hl, hc⟩ := exec_confined ht ha hd
  exact ⟨hc.csr.2 hnone, hc.params, hc.bstep, hc.port, hc.bindings, hc.caps, hc.grants, hc.caller, hc.attached hl⟩

/-- Settles O48: an operation stays within the frame of its store target. -/
theorem storeOperationsFrame : Obligations.StoreOperationsFrame := by
  intro s t i hi ht
  obtain ⟨ha, hd⟩ : i ≠ .attach ∧ i ≠ .detach := by
    rcases hi with ⟨a, b, rfl⟩ | ⟨d, v, rfl⟩ | ⟨g, v, rfl⟩ <;> exact ⟨nofun, nofun⟩
  obtain ⟨hl, hc⟩ := exec_confined ht ha hd
  exact ⟨hc.csr.1, hc.csr.2, hc.params, hc.bstep, hc.port, hc.bindings, hc.caps, hc.grants, hc.caller,
    hc.attached hl⟩

/-! ## RDREG and WRREG, answered -/

/-- An operation of one failed transaction, from the free guard to its end: the failure is logged once, nothing is in
flight, and the guard is free again (R160, R161, R168). -/
theorem finish_addDiag_afterTxn_acquire (s : State) (h : Handle) (i : Instr) (x : Txn) (e : Event) (d : Diag)
    (m : List Host.Cell) (r : Result) (hl : s.life = .attached h) (hg : h.guard = .free) :
    ((afterTxn (s.acquire i) x e m).addDiag d).finish r =
      { s.settled 1 [e, .diag d, .response s.caller r] with
        csr := m, life := .attached { h with diag := h.diag ++ [d] } } := by
  have hlife : (((afterTxn (s.acquire i) x e m).addDiag d).finish r).life
      = .attached { h with diag := h.diag ++ [d] } := by
    simp [afterTxn, hl, ← hg]
  have hhist : (((afterTxn (s.acquire i) x e m).addDiag d).finish r).history
      = s.history ++ [e, .diag d, .response s.caller r] := by
    simp [afterTxn]
  calc ((afterTxn (s.acquire i) x e m).addDiag d).finish r
      = { s.settled 1 [e, .diag d, .response s.caller r] with
          csr := m, life := (((afterTxn (s.acquire i) x e m).addDiag d).finish r).life,
          history := (((afterTxn (s.acquire i) x e m).addDiag d).finish r).history } := rfl
    _ = _ := by rw [hlife, hhist]; rfl

/-- A failed RDREG, from the free guard to its end (R162). -/
theorem exec_rdreg_of_err {s : State} {h : Handle} {left : Byte} (a : Byte) (hl : s.life = .attached h)
    (hg : h.guard = .free) (hn : s.nextAnswer = .err left) :
    exec (.rdreg a) s = .next { s.settled 1
        [.read a none, .diag ⟨.rd, a⟩, .response s.caller (.fault .transportFault)] with
      life := .attached { h with diag := h.diag ++ [⟨.rd, a⟩] } } := by
  have hrun : (s.acquire (.rdreg a)).xferRead a = _ := State.xferRead_err _ a left hn
  rw [exec_of_reachesBus s h _ hl rfl, s.underGuard_free h _ _ hg]
  simp only [bodyOf, rdregBody, State.readOp, hrun, endRead]
  rw [finish_addDiag_afterTxn_acquire s h _ _ _ _ _ _ hl hg]
  rfl

/-- A failed WRREG, from the free guard to its end (R163). -/
theorem exec_wrreg_of_err {s : State} {h : Handle} {left : Byte} (a b : Byte) (hl : s.life = .attached h)
    (hg : h.guard = .free) (hn : s.nextAnswer = .err left) :
    exec (.wrreg a b) s = .next { s.settled 1
        [.write a b false, .diag ⟨.wr, a⟩, .response s.caller (.fault .transportFault)] with
      life := .attached { h with diag := h.diag ++ [⟨.wr, a⟩] }, csr := failIn s.params s.csr a left } := by
  have hrun : (s.acquire (.wrreg a b)).xferWrite a b = _ := State.xferWrite_err _ a b left hn
  rw [exec_of_reachesBus s h _ hl rfl, s.underGuard_free h _ _ hg]
  simp only [bodyOf, wrregBody, State.writeOp, hrun, endWrite]
  rw [finish_addDiag_afterTxn_acquire s h _ _ _ _ _ _ hl hg]
  rfl

/-- Settles O24. -/
theorem rdregResult : Obligations.RdregResult := fun _ _ a hl hg =>
  ⟨fun _ _ => exec_rdreg_of_ok a hl hg, fun _ => exec_rdreg_of_err a hl hg⟩

/-- Settles O25: WRREG ends in what its one write leaves in the register space. -/
theorem wrregResult : Obligations.WrregResult := by
  intro s h a b hl hg
  refine ⟨fun hw fx hn hf => ?_, fun left hn => ?_⟩
  · obtain ⟨hstored, hother⟩ := (landedAndFailedWritesTouchOneRegister s.params s.csr a b fx).1 hf
    exact ⟨_, exec_wrreg_of_ok a b hl hg hn, rfl, hstored, fun hr => landIn_of_unmapped hr _ b fx, hother⟩
  · obtain ⟨-, hstored, hother⟩ := landedAndFailedWritesTouchOneRegister s.params s.csr a left []
    exact ⟨_, exec_wrreg_of_err a b hl hg hn, rfl, hstored, fun hr => failIn_of_unmapped hr _ left, hother⟩

end Sys2Proof.Machine
end

section
/-! SUPPORT. The Bit-Field Control Surface: extract and merge bit by bit, the operations of one and of two answered
transactions from the guard's acquire to its release, and what a read-modify-write leaves in the storage bits
(spec/41_bitfield.md). -/

namespace Sys2Proof.Machine

/-! ## Extract and merge (R180, R181) -/

theorem extractBit_eq_getLsbD (b : Byte) (i : BitIdx) : extractBit b i = b.getLsbD i.toNat := by
  have hbit : (b >>> i.toNat) &&& 1#8 = BitVec.setWidth 8 (BitVec.ofBool (b.getLsbD i.toNat)) := by
    rw [BitVec.and_one_eq_setWidth_ofBool_getLsbD, BitVec.getLsbD_ushiftRight, Nat.add_zero]
  rw [extractBit, hbit]
  cases b.getLsbD i.toNat <;> rfl

/-- The bit to merge, moved to its place, is the one bit of the mask or nothing. -/
theorem ite_shiftLeft_eq (i : BitIdx) (v : Bool) :
    (if v then 1#8 else 0#8) <<< i.toNat = if v then bitMask i else 0x00#8 := by
  cases v with
  | false => exact BitVec.zero_shiftLeft i.toNat
  | true => rfl

/-- Bit `i` of the merged byte is `v`, every other bit is the old one (R181). -/
theorem mergeBit_getLsbD (b : Byte) (i : BitIdx) (v : Bool) (j : Nat) :
    (mergeBit b i v).getLsbD j = if j = i.toNat then v else b.getLsbD j := by
  have hmask : (bitMask i).getLsbD j = decide (j = i.toNat) := by
    rw [Bool.eq_iff_iff, bitMask_getLsbD, decide_eq_true_iff]
  have hvalue : (if v then bitMask i else 0x00#8).getLsbD j = (v && decide (j = i.toNat)) := by
    cases v <;> simp [hmask]
  have hones : (0xFF#8).getLsbD j = decide (j < 8) := BitVec.getLsbD_allOnes
  rw [mergeBit, ite_shiftLeft_eq, BitVec.getLsbD_or, BitVec.getLsbD_and, BitVec.getLsbD_xor, hmask, hvalue, hones]
  by_cases hj : j = i.toNat
  · have hlt : i.toNat < 8 := i.isLt
    simp [hj, hlt]
  · cases hb : b.getLsbD j with
    | false => simp [hj]
    | true => simp [hj, BitVec.lt_of_getLsbD hb]

/-- Settles O8. -/
theorem extractAndMergeActOnOneBit : Obligations.ExtractAndMergeActOnOneBit :=
  ⟨extractBit_eq_getLsbD, fun b i v j _ => mergeBit_getLsbD b i v j⟩

theorem bitMask_mem : ∀ i : BitIdx,
    bitMask i ∈ [0x01#8, 0x02#8, 0x04#8, 0x08#8, 0x10#8, 0x20#8, 0x40#8, 0x80#8] := by
  decide

/-- Settles O9: each law is read off bit by bit. -/
theorem mergeLaws : Obligations.MergeLaws := by
  intro c i j v w
  have hij (hne : j ≠ i) : j.toNat ≠ i.toNat := fun h => hne (BitVec.eq_of_toNat_eq h)
  refine ⟨?_, fun hne => ?_, ?_, ?_, fun hne => ?_, ?_⟩
  · rw [extractBit_eq_getLsbD, mergeBit_getLsbD, if_pos rfl]
  · rw [extractBit_eq_getLsbD, extractBit_eq_getLsbD, mergeBit_getLsbD, if_neg (hij hne)]
  · refine BitVec.eq_of_getLsbD_eq fun k _ => ?_
    rw [mergeBit_getLsbD, extractBit_eq_getLsbD]
    split <;> simp [*]
  · refine BitVec.eq_of_getLsbD_eq fun k _ => ?_
    simp only [mergeBit_getLsbD]
    split <;> rfl
  · refine BitVec.eq_of_getLsbD_eq fun k _ => ?_
    simp only [mergeBit_getLsbD]
    split
    next hk => rw [if_neg (hk ▸ hij hne)]
    next => rfl
  · exact bitMask_mem i

/-- A value as the Boolean to merge (R181). -/
theorem valueBit_eq (v : Value) : valueBit v = (v.toNat == 1) := by
  rw [Bool.eq_iff_iff, valueBit, beq_iff_eq, beq_iff_eq]
  exact BitVec.toNat_inj.symm

/-- A value that is a byte is written as that byte (R185). -/
theorem valueByte_eq_of_toNat {v : Value} {b : Byte} (h : b.toNat = v.toNat) : valueByte v = b := by
  refine BitVec.eq_of_toNat_eq ?_
  rw [valueByte, BitVec.extractLsb'_toNat, Nat.shiftRight_zero, ← h]
  exact Nat.mod_eq_of_lt b.isLt

/-! ## Checks before the guard (R184, R186) -/

/-- Settles O30: neither check looks at the guard, and the domain is checked first. -/
theorem rejectionsTouchNothing : Obligations.RejectionsTouchNothing := by
  intro s h v hl
  have hbit : inBitDomain v = decide (v.toNat ≤ 1) := rfl
  have hsig (g : Signal) : inSigDomain s.params g v = decide (v.toNat ≤ sigMax s.params g) := rfl
  refine ⟨fun d hv => ?_, fun d hv hw => ?_, fun g hv => ?_, fun g hv hw => ?_⟩
  · simp only [exec, execSetbit, s.accepted_attached h _ hl, hbit, decide_eq_false (Nat.not_le.mpr hv)]
    rfl
  · simp only [exec, execSetbit, s.accepted_attached h _ hl, hbit, decide_eq_true hv, hw]
    rfl
  · simp only [exec, execSetsig, s.accepted_attached h _ hl, hsig, decide_eq_false (Nat.not_le.mpr hv)]
    rfl
  · simp only [exec, execSetsig, s.accepted_attached h _ hl, hsig, decide_eq_true hv, hw]
    rfl

/-- GETSIG of an identity signal is answered from its cell, whatever the guard is (R184). -/
theorem exec_getsig_ident {s : State} {h : Handle} (hl : s.life = .attached h) (f : IdentField) :
    exec (.getsig (.ident f)) s = .next (s.respond (identResult h.ident f)) :=
  s.accepted_attached h _ hl

/-- Settles O35: the answer is the cell's value or its absence. -/
theorem getsigAnswersIdentityFromTheSnapshot : Obligations.GetsigAnswersIdentityFromTheSnapshot := by
  intro s h r hl
  have hexec {f : IdentField} (hr : r = identResult h.ident f) : exec (.getsig (.ident f)) s = .next { s with
      history := s.history ++ [.response s.caller r] } := hr ▸ exec_getsig_ident hl f
  obtain ⟨endpoint, guard, ⟨ver, type, day, month, year⟩, diag⟩ := h
  refine ⟨fun hr => hexec ?_, fun hr => hexec ?_, fun hr => hexec ?_, fun hr => hexec ?_, fun hr => hexec ?_⟩
  · cases ver <;> exact hr
  · cases type <;> exact hr
  · cases day <;> exact hr
  · cases month <;> exact hr
  · cases year <;> exact hr

/-! ## From the guard's acquire to its release -/

/-- In ATTACHED, with the guard free, an operation that passes its checks takes the guard and runs (R168). -/
theorem exec_of_guard_free {s : State} {h : Handle} {i : Instr} (hl : s.life = .attached h) (hg : h.guard = .free)
    (hi : reachesBus s.params i = true) : exec i s = .next (bodyOf i (s.acquire i)) := by
  rw [exec_of_reachesBus s h i hl hi, s.underGuard_free h i _ hg]

/-- A write that succeeds ends its operation: the byte lands and the guard is released (R98, R161, R168). -/
theorem writeOp_of_ok {s : State} {hw : Byte} {fx : List (Reg × Byte)} (a b : Byte)
    (hn : s.nextAnswer = .ok hw fx) :
    s.writeOp a b = { s.settled 1 [.write a b true, .response s.caller .ok] with
      life := s.life.onHandle fun h => { h with guard := .free }, csr := landIn s.params s.csr a b fx } := by
  rw [State.writeOp, s.xferWrite_ok a b hw fx hn]
  simp [endWrite, State.finish, State.release, State.respond, State.onHandle, State.log, afterTxn, State.settled,
    State.dropAnswers]

/-- A write that fails ends its operation: the failure is logged once and the guard is released (R99, R161, R168). -/
theorem writeOp_of_err {s : State} {left : Byte} (a b : Byte) (hn : s.nextAnswer = .err left) :
    s.writeOp a b = { s.settled 1
        [.write a b false, .diag ⟨.wr, a⟩, .response s.caller (.fault .transportFault)] with
      life := s.life.onHandle fun h => { h with guard := .free, diag := h.diag ++ [⟨.wr, a⟩] },
      csr := failIn s.params s.csr a left } := by
  rw [State.writeOp, s.xferWrite_err a b left hn]
  simp [endWrite, State.finish, State.release, State.respond, State.addDiag, State.onHandle, State.log, afterTxn,
    State.settled, State.dropAnswers]

/-! ## Operations of one read -/

section
variable {s : State} {h : Handle} {i : Instr} {a : Byte} {f : Byte → Result}
  (hl : s.life = .attached h) (hg : h.guard = .free) (hi : reachesBus s.params i = true)
  (hb : bodyOf i (s.acquire i) = (s.acquire i).readOp a f)
include hl hg hi hb

/-- An operation of one read that succeeds answers what it makes of the byte (R182, R184). -/
theorem exec_read_of_ok {hw : Byte} {fx : List (Reg × Byte)} (hn : s.nextAnswer = .ok hw fx) :
    exec i s = .next (s.settled 1
      [.read a (some (s.readByte a hw)), .response s.caller (f (s.readByte a hw))]) := by
  have hread : (s.acquire i).xferRead a = _ := State.xferRead_ok _ a hw fx hn
  rw [exec_of_guard_free hl hg hi, hb, State.readOp, hread, endRead, finish_afterTxn_acquire s h _ _ _ _ _ hl hg]
  rfl

/-- An operation of one read that fails is logged once and answered TransportFault (R160, R182, R184). -/
theorem exec_read_of_err {left : Byte} (hn : s.nextAnswer = .err left) :
    exec i s = .next { s.settled 1
        [.read a none, .diag ⟨.rd, a⟩, .response s.caller (.fault .transportFault)] with
      life := .attached { h with diag := h.diag ++ [⟨.rd, a⟩] } } := by
  have hread : (s.acquire i).xferRead a = _ := State.xferRead_err _ a left hn
  rw [exec_of_guard_free hl hg hi, hb, State.readOp, hread, endRead,
    finish_addDiag_afterTxn_acquire s h _ _ _ _ _ _ hl hg]
  rfl

end

/-- A successful GETBIT, from the free guard to its end (R182). -/
theorem exec_getbit_of_ok {s : State} {h : Handle} {hw : Byte} {fx : List (Reg × Byte)} (d : Descriptor)
    (hl : s.life = .attached h) (hg : h.guard = .free) (hn : s.nextAnswer = .ok hw fx) :
    exec (.getbit d) s = .next (s.settled 1 [.read d.reg (some (s.readByte d.reg hw)),
      .response s.caller (.okBool ((s.readByte d.reg hw).getLsbD d.bit.toNat))]) := by
  rw [exec_read_of_ok hl hg rfl rfl hn, extractBit_eq_getLsbD]

/-- Settles O29. -/
theorem getbitResult : Obligations.GetbitResult := fun _ _ d hl hg =>
  ⟨fun _ _ => exec_getbit_of_ok d hl hg, fun _ => exec_read_of_err hl hg rfl rfl⟩

/-- GETSIG of a bit-kind signal is one read of its register, of which it answers the signal's bit (R184). -/
theorem getsig_runs_as_read_of_bit {s : State} {g : Signal} {r : Reg} {i : BitIdx}
    (hk : sigKind s.params g = .bit r i) :
    reachesBus s.params (.getsig g) = true
      ∧ bodyOf (.getsig g) (s.acquire (.getsig g))
        = (s.acquire (.getsig g)).readOp (addrOf s.params r) fun b => .okBool (b.getLsbD i.toNat) := by
  refine ⟨by simp only [reachesBus, hk], ?_⟩
  simp only [bodyOf, getsigBody, State.acquire_params, hk, getbitBody, extractBit_eq_getLsbD]
  rfl

/-- GETSIG of the byte-kind signal is one read of its register, of which it answers the whole byte (R184). -/
theorem getsig_runs_as_read_of_byte {s : State} {g : Signal} {r : Reg} (hk : sigKind s.params g = .byte r) :
    reachesBus s.params (.getsig g) = true
      ∧ bodyOf (.getsig g) (s.acquire (.getsig g))
        = (s.acquire (.getsig g)).readOp (addrOf s.params r) .okByte := by
  refine ⟨by simp only [reachesBus, hk], ?_⟩
  simp only [bodyOf, getsigBody, State.acquire_params, hk]

/-- Settles O34: either kind of signal is one read of its register. -/
theorem getsigReadsTheSignalsRegister : Obligations.GetsigReadsTheSignalsRegister := by
  intro s h g hl hg
  refine ⟨fun r i hk hw fx b hn hb => ?_, fun r hk hw fx b hn hb => ?_, fun r left hk hn => ?_⟩
  · obtain ⟨hi, hbody⟩ := getsig_runs_as_read_of_bit hk
    rw [hb, exec_read_of_ok hl hg hi hbody hn]
  · obtain ⟨hi, hbody⟩ := getsig_runs_as_read_of_byte hk
    rw [hb, exec_read_of_ok hl hg hi hbody hn]
  · rcases hk with hk | ⟨i, hk⟩
    · obtain ⟨hi, hbody⟩ := getsig_runs_as_read_of_byte hk
      exact exec_read_of_err hl hg hi hbody hn
    · obtain ⟨hi, hbody⟩ := getsig_runs_as_read_of_bit hk
      exact exec_read_of_err hl hg hi hbody hn

/-! ## The read-modify-write (R183, R185) -/

/-- The guard taken by an operation and released again is free, as it was (R168). -/
theorem release_acquire_life {s : State} {h : Handle} (hl : s.life = .attached h) (hg : h.guard = .free) (i : Instr) :
    ((s.acquire i).life.onHandle fun h => { h with guard := .free }) = s.life := by
  simp [hl, ← hg]

/-- The guard taken by an operation whose transaction fails is free again, and the failure is logged (R161, R168). -/
theorem release_addDiag_acquire_life {s : State} {h : Handle} (hl : s.life = .attached h) (hg : h.guard = .free)
    (i : Instr) (d : Diag) :
    ((s.acquire i).life.onHandle fun h => { h with guard := .free, diag := h.diag ++ [d] })
      = .attached { h with diag := h.diag ++ [d] } := by
  simp [hl, ← hg]

/-- The state in which a read-modify-write `i` at `a` that took the guard in `s` has latched the byte read, `c`, and
its write is still to come (R183). -/
def State.afterRmwRead (s : State) (i : Instr) (a c : Byte) : State :=
  (afterTxn (s.acquire i) (.rd a) (.read a (some c)) s.csr).latch c

@[simp] theorem afterRmwRead_life (s : State) (i : Instr) (a c : Byte) :
    (s.afterRmwRead i a c).life = (s.acquire i).life := rfl

/-- A read-modify-write that ends with its write has had two transactions, and the read's event comes before the others
(R183). -/
theorem settled_afterRmwRead (s : State) (i : Instr) (a c : Byte) (es : List Event) :
    (s.afterRmwRead i a c).settled 1 es
      = { s.settled 2 (.read a (some c) :: es) with life := (s.acquire i).life } := by
  simp [State.afterRmwRead, State.settled, State.latch, afterTxn, State.dropAnswers, State.dropAnswer, State.acquire,
    State.onHandle]

section
variable {s : State} {h : Handle} {i : Instr} {a : Byte} {j : BitIdx} {v : Bool}
  (hl : s.life = .attached h) (hg : h.guard = .free) (hi : reachesBus s.params i = true)
  (hb : bodyOf i (s.acquire i) = (s.acquire i).rmwOp a j v)
include hl hg hi hb

/-- A read-modify-write whose read fails ends there, as an operation of one read does. -/
theorem exec_rmw_of_read_err {left : Byte} (hn : s.answerAt 0 = .err left) :
    exec i s = .next { s.settled 1
        [.read a none, .diag ⟨.rd, a⟩, .response s.caller (.fault .transportFault)] with
      life := .attached { h with diag := h.diag ++ [⟨.rd, a⟩] } } := by
  have hread : (s.acquire i).xferRead a = _ := State.xferRead_err _ a left hn
  refine exec_read_of_err (f := .okByte) hl hg hi ?_ hn
  rw [hb, State.rmwOp, State.acquire_cur, State.readOp, hread]
  rfl

/-- A read-modify-write whose read succeeds goes on to the write of the merged byte. -/
theorem exec_rmw_of_read_ok {hw : Byte} {fx : List (Reg × Byte)} (hn : s.answerAt 0 = .ok hw fx) :
    exec i s = .next ((s.afterRmwRead i a (s.readByte a hw)).writeOp a (mergeBit (s.readByte a hw) j v)) := by
  have hread : (s.acquire i).xferRead a = _ := State.xferRead_ok _ a hw fx hn
  rw [exec_of_guard_free hl hg hi, hb, State.rmwOp, State.acquire_cur, hread]
  rfl

/-- A read-modify-write whose read and write succeed. -/
theorem exec_rmw_of_ok {hw hw' : Byte} {fx fx' : List (Reg × Byte)} (hn : s.answerAt 0 = .ok hw fx)
    (hn' : s.answerAt 1 = .ok hw' fx') :
    exec i s = .next { s.settled 2
        [.read a (some (s.readByte a hw)), .write a (mergeBit (s.readByte a hw) j v) true,
          .response s.caller .ok] with
      csr := landIn s.params s.csr a (mergeBit (s.readByte a hw) j v) fx' } := by
  rw [exec_rmw_of_read_ok hl hg hi hb hn, writeOp_of_ok (s := s.afterRmwRead i a _) a _ hn',
    settled_afterRmwRead, afterRmwRead_life, release_acquire_life hl hg]
  rfl

/-- A read-modify-write whose write fails. -/
theorem exec_rmw_of_write_err {hw left : Byte} {fx : List (Reg × Byte)} (hn : s.answerAt 0 = .ok hw fx)
    (hn' : s.answerAt 1 = .err left) :
    exec i s = .next { s.settled 2
        [.read a (some (s.readByte a hw)), .write a (mergeBit (s.readByte a hw) j v) false, .diag ⟨.wr, a⟩,
          .response s.caller (.fault .transportFault)] with
      life := .attached { h with diag := h.diag ++ [⟨.wr, a⟩] }, csr := failIn s.params s.csr a left } := by
  rw [exec_rmw_of_read_ok hl hg hi hb hn, writeOp_of_err (s := s.afterRmwRead i a _) a _ hn',
    settled_afterRmwRead, afterRmwRead_life, release_addDiag_acquire_life hl hg]
  rfl

end

/-- SETBIT of a value in {0, 1} with the writable flag set is a read-modify-write of its bit (R183). -/
theorem setbit_runs_as_rmw {s : State} {d : Descriptor} {v : Value} (hv : v.toNat ≤ 1) (hw : d.writable = true) :
    reachesBus s.params (.setbit d v) = true
      ∧ bodyOf (.setbit d v) (s.acquire (.setbit d v))
        = (s.acquire (.setbit d v)).rmwOp d.reg d.bit (v.toNat == 1) := by
  refine ⟨?_, ?_⟩
  · rw [reachesBus, (inBitDomain_iff v).mpr hv, hw]
    rfl
  · rw [← valueBit_eq]
    rfl

/-- Settles O31. -/
theorem setbitResult : Obligations.SetbitResult := by
  intro s h d v hl hg hv hw
  obtain ⟨hi, hb⟩ := setbit_runs_as_rmw (s := s) hv hw
  refine ⟨fun left hn => exec_rmw_of_read_err hl hg hi hb hn, ?_⟩
  rintro hw fx hn _ _ rfl rfl
  exact ⟨fun hw' fx' hn' => exec_rmw_of_ok hl hg hi hb hn hn',
    fun left hn' => exec_rmw_of_write_err hl hg hi hb hn hn'⟩

/-- SETSIG inside the domain of a writable signal goes to the guard and the bus (R185, R186). -/
theorem setsig_reachesBus {p : Params} {g : Signal} {v : Value} (hv : v.toNat ≤ sigMax p g)
    (hw : sigWritable p g = true) : reachesBus p (.setsig g v) = true := by
  rw [reachesBus, (inSigDomain_iff p g v).mpr hv, hw]
  rfl

/-- SETSIG of a bit-kind signal is a read-modify-write of its bit (R185). -/
theorem setsig_runs_as_rmw {s : State} {g : Signal} {r : Reg} {j : BitIdx} (hk : sigKind s.params g = .bit r j)
    (v : Value) :
    bodyOf (.setsig g v) (s.acquire (.setsig g v))
      = (s.acquire (.setsig g v)).rmwOp (addrOf s.params r) j (v.toNat == 1) := by
  simp only [bodyOf, setsigBody, State.acquire_params, hk, setbitBody, valueBit_eq]
  rfl

/-- SETSIG of the byte-kind signal is one write of the whole byte (R185). -/
theorem setsig_runs_as_write {s : State} {g : Signal} {r : Reg} {v : Value} {b : Byte}
    (hk : sigKind s.params g = .byte r) (hb : b.toNat = v.toNat) :
    bodyOf (.setsig g v) (s.acquire (.setsig g v))
      = (s.acquire (.setsig g v)).writeOp (addrOf s.params r) b := by
  simp only [bodyOf, setsigBody, State.acquire_params, hk, valueByte_eq_of_toNat hb]

section
variable {s : State} {h : Handle} {i : Instr} {a b : Byte}
  (hl : s.life = .attached h) (hg : h.guard = .free) (hi : reachesBus s.params i = true)
  (hb : bodyOf i (s.acquire i) = (s.acquire i).writeOp a b)
include hl hg hi hb

/-- An operation of one write that succeeds (R185). -/
theorem exec_write_of_ok {hw : Byte} {fx : List (Reg × Byte)} (hn : s.nextAnswer = .ok hw fx) :
    exec i s = .next { s.settled 1 [.write a b true, .response s.caller .ok] with
      csr := landIn s.params s.csr a b fx } := by
  rw [exec_of_guard_free hl hg hi, hb, writeOp_of_ok (s := s.acquire i) a b hn, release_acquire_life hl hg]
  rfl

/-- An operation of one write that fails is logged once and answered TransportFault (R161, R185). -/
theorem exec_write_of_err {left : Byte} (hn : s.nextAnswer = .err left) :
    exec i s = .next { s.settled 1
        [.write a b false, .diag ⟨.wr, a⟩, .response s.caller (.fault .transportFault)] with
      life := .attached { h with diag := h.diag ++ [⟨.wr, a⟩] }, csr := failIn s.params s.csr a left } := by
  rw [exec_of_guard_free hl hg hi, hb, writeOp_of_err (s := s.acquire i) a b hn, release_addDiag_acquire_life hl hg]
  rfl

end

/-- Settles O36: a bit is read and written back merged, a byte is written at once. -/
theorem setsigWritesTheSignalsRegister : Obligations.SetsigWritesTheSignalsRegister := by
  intro s h g v hl hg hv hw
  have hi := setsig_reachesBus hv hw
  refine ⟨?bit, ?byte⟩
  case bit =>
    rintro r j _ hk rfl
    have hb := setsig_runs_as_rmw hk v
    refine ⟨fun left hn => exec_rmw_of_read_err hl hg hi hb hn, ?_⟩
    rintro hw fx hn _ _ rfl rfl
    exact ⟨fun hw' fx' hn' => exec_rmw_of_ok hl hg hi hb hn hn',
      fun left hn' => exec_rmw_of_write_err hl hg hi hb hn hn'⟩
  case byte =>
    rintro r _ b hk rfl hbyte
    have hb := setsig_runs_as_write hk hbyte
    exact ⟨fun hw fx hn => exec_write_of_ok hl hg hi hb hn, fun left hn => exec_write_of_err hl hg hi hb hn⟩

/-- Settles O21: the operation that goes on has its byte in the latch, so all that is left of it is the write. -/
theorem delayedSetbitWriteUsesTheByteRead : Obligations.DelayedSetbitWriteUsesTheByteRead := by
  rintro s h q i a j v c _ hi ha hl hg hc rfl
  have hbody : bodyOf i (s.serving q) = (s.serving q).writeOp a (mergeBit c j (valueBit v)) := by
    rw [← State.rmwOp_latched (s.serving q) a j (valueBit v) c hc]
    rcases hi with ⟨d, rfl, rfl, rfl⟩ | ⟨g, r, rfl, hk, rfl⟩
    · rfl
    · simp only [bodyOf, setsigBody, State.serving, hk]
      rfl
  have hstep (hn : isLate s.nextAnswer = false) :
      step s = .next ((s.serving q).writeOp a (mergeBit c j (valueBit v))) := by
    rw [step_of_answered ha ((s.silent_attached h hl).trans hn), resume_eq, hbody]
  refine ⟨fun hw fx hn => ?_, fun left hn => ?_⟩
  · rw [hstep (by rw [hn]; rfl), writeOp_of_ok (s := s.serving q) a _ hn, State.serving, hl]
    rfl
  · rw [hstep (by rw [hn]; rfl), writeOp_of_err (s := s.serving q) a _ hn, State.serving, hl]
    rfl

/-! ## What a read-modify-write leaves in the storage bits (R188) -/

/-- Where a bit is a storage bit of its register, a read returns what is stored (R97). -/
theorem readByte_getLsbD {s : State} {a : Byte} {r : Reg} {j : Nat} (hr : regAt s.params a = some r)
    (hm : (storageMask s.params r).getLsbD j = true) (hw : Byte) :
    (s.readByte a hw).getLsbD j = (s.storage r).getLsbD j := by
  rw [← readByte_and_storageMask hr hw, BitVec.getLsbD_and, hm, Bool.and_true]

/-- A store to the register at one address leaves the storage bits of a register at another address (R98). -/
theorem storage_of_stored_other {s t : State} {r r' : Reg} {b : Byte} (hp : t.params = s.params)
    (hc : t.csr = storeIn s.params s.csr r b) (hr : addrOf s.params r' ≠ addrOf s.params r) :
    t.storage r' = s.storage r' := by
  have hne : (addrOf s.params r').toNat ≠ (addrOf s.params r).toNat := fun h => hr (BitVec.eq_of_toNat_eq h)
  simp only [State.storage, hp, hc, storedIn, read_storeIn_other _ _ r b _ hne]

/-- Of the register that a merged byte is stored to, a storage bit holds the value merged into it and the other bits
hold what they held when the byte was read (R181, R183). -/
theorem storage_getLsbD_of_stored_merge {s t : State} {a hw : Byte} {r : Reg} {i : BitIdx} {v : Bool}
    (hp : t.params = s.params) (hc : t.csr = storeIn s.params s.csr r (mergeBit (s.readByte a hw) i v))
    (hr : regAt s.params a = some r) (hm : (storageMask s.params r).getLsbD i.toNat = true) (j : Nat) :
    (t.storage r).getLsbD j = if j = i.toNat then v else (s.storage r).getLsbD j := by
  have hstored : t.storage r = mergeBit (s.readByte a hw) i v &&& storageMask s.params r := by
    rw [State.storage, hp, hc, storedIn_storeIn_same]
  rw [hstored, BitVec.getLsbD_and, mergeBit_getLsbD]
  split
  next hj => rw [hj, hm, Bool.and_true]
  next => rw [← readByte_and_storageMask hr hw, BitVec.getLsbD_and]

/-- From `s` to `t` an operation of two transactions has come and gone: it has set storage bit `i` of the register `r`
to `v` and no other storage bit of any register (R183, R188). -/
structure SetsBit (s t : State) (r : Reg) (i : BitIdx) (v : Bool) : Prop where
  life : t.life = s.life
  params : t.params = s.params
  caller : t.caller = s.caller
  answerAt : ∀ k, t.answerAt k = s.answerAt (k + 2)
  storage : ∀ j, (t.storage r).getLsbD j = if j = i.toNat then v else (s.storage r).getLsbD j
  others : ∀ r', addrOf s.params r' ≠ addrOf s.params r → t.storage r' = s.storage r'

/-- A read-modify-write of a storage bit whose two transactions succeed sets that bit and no other, where no soft-reset
effect is configured for its register. -/
theorem setsBit_of_rmw {s : State} {h : Handle} {i : Instr} {a : Byte} {r : Reg} {j : BitIdx} {v : Bool}
    (hl : s.life = .attached h) (hg : h.guard = .free) (hi : reachesBus s.params i = true)
    (hb : bodyOf i (s.acquire i) = (s.acquire i).rmwOp a j v) (hr : regAt s.params a = some r)
    (hm : (storageMask s.params r).getLsbD j.toNat = true)
    (he : r = .softRst → s.params.softRstEffect = .identity)
    (hn : ∃ hw fx, s.answerAt 0 = .ok hw fx) (hn' : ∃ hw fx, s.answerAt 1 = .ok hw fx) :
    ∃ t, exec i s = .next t ∧ SetsBit s t r j v := by
  obtain ⟨hw, fx, hn⟩ := hn
  obtain ⟨hw', fx', hn'⟩ := hn'
  have hland : landIn s.params s.csr a (mergeBit (s.readByte a hw) j v) fx'
      = storeIn s.params s.csr r (mergeBit (s.readByte a hw) j v) := by
    refine landIn_of_not_fires hr ?_ _ _
    by_cases hs : r = .softRst
    · exact not_firesSoftReset hr (.inl (he hs))
    · simp [firesSoftReset, hs]
  refine ⟨_, exec_rmw_of_ok hl hg hi hb hn hn', ?_⟩
  exact {
    life := rfl
    params := rfl
    caller := rfl
    answerAt := answerAt_congr (s := s.dropAnswer.dropAnswer) rfl rfl
    storage := storage_getLsbD_of_stored_merge rfl hland hr hm
    others := fun _ => storage_of_stored_other rfl hland }

/-- Settles O32: the read after the write finds the bit stored, and no other storage bit has changed. -/
theorem setbitRoundTripKeepsSiblings : Obligations.SetbitRoundTripKeepsSiblings := by
  intro s h d v r hw0 hw1 hw2 fx0 fx1 fx2 hl hg hv hw hr hm he h0 h1 h2
  obtain ⟨hi, hb⟩ := setbit_runs_as_rmw (s := s) hv hw
  obtain ⟨t, ht, hset⟩ := setsBit_of_rmw hl hg hi hb hr hm he ⟨hw0, fx0, h0⟩ ⟨hw1, fx1, h1⟩
  have hget := exec_getbit_of_ok d (hset.life.trans hl) hg ((hset.answerAt 0).trans h2)
  have hbit : (t.readByte d.reg hw2).getLsbD d.bit.toNat = (v.toNat == 1) := by
    rw [readByte_getLsbD (by rwa [hset.params]) (by rwa [hset.params]), hset.storage, if_pos rfl]
  refine ⟨t, _, t.readByte d.reg hw2, ht, hget, ?_, fun j hj => ?_⟩
  · rw [hbit, hset.caller]
    rfl
  · exact (hset.storage j).trans (if_neg hj)

/-- Settles O33: the second SETBIT reads what the first has left. -/
theorem twoBitWritesLoseNeitherUpdate : Obligations.TwoBitWritesLoseNeitherUpdate := by
  intro s h a i j v w r hl hg hv hw hij hr hmi hmj he hn
  obtain ⟨hi, hb⟩ := setbit_runs_as_rmw (s := s) (d := ⟨a, i, true, true⟩) hv rfl
  obtain ⟨t, ht, hfirst⟩ := setsBit_of_rmw hl hg hi hb hr hmi he (hn 0 (by decide)) (hn 1 (by decide))
  rw [← hfirst.params] at hr hmj he
  have hn' (k : Nat) (hk : k < 2) : ∃ hw fx, t.answerAt k = .ok hw fx := by
    rw [hfirst.answerAt]
    exact hn _ (by omega)
  obtain ⟨hi', hb'⟩ := setbit_runs_as_rmw (s := t) (d := ⟨a, j, true, true⟩) hw rfl
  obtain ⟨u, hu, hsecond⟩ := setsBit_of_rmw (hfirst.life.trans hl) hg hi' hb' hr hmj he (hn' 0 (by decide))
    (hn' 1 (by decide))
  refine ⟨t, u, ht, hu, ?_, ?_⟩
  · have hne : i.toNat ≠ j.toNat := fun h => hij (BitVec.eq_of_toNat_eq h)
    rw [hsecond.storage, if_neg hne, hfirst.storage, if_pos rfl]
  · rw [hsecond.storage, if_pos rfl]

/-! ## The bits of the modules (R50) -/

/-- The registers have distinct addresses (R7). -/
theorem addrOf_injective {p : Params} (hp : validParams p = true) : Function.Injective (addrOf p) := by
  have hnodup : (Reg.all.map (addrOf p)).Nodup := by
    simp only [validParams, Bool.and_eq_true, decide_eq_true_eq] at hp
    exact hp.1.1
  have hall (r : Reg) : r ∈ Reg.all := by cases r <;> decide
  exact fun r r' h => List.inj_on_of_nodup_map hnodup (hall r) (hall r') h

/-- Each register is found at its address (R80). -/
theorem regAt_addrOf {p : Params} (hp : validParams p = true) (r : Reg) : regAt p (addrOf p r) = some r := by
  have hfound : (regAt p (addrOf p r)).isSome := by
    rw [regAt, List.find?_isSome]
    exact ⟨r, by cases r <;> decide, beq_self_eq_true _⟩
  obtain ⟨r', hr'⟩ := Option.isSome_iff_exists.mp hfound
  rw [hr', addrOf_injective hp (addrOf_regAt p _ r' hr')]

/-- The register of a module in a writable group consists of storage bits, and it is not the soft-reset register (R34 to
R39). -/
theorem moduleReg_of_groupWritable {g : ModGroup} (hg : groupWritable g = true) (p : Params) (n : Nat) :
    storageMask p (moduleReg g n) = 0xFF#8 ∧ moduleReg g n ≠ .softRst := by
  cases g with
  | rst | lpmode | modsel => cases hn : inLowHalf n <;> simp [moduleReg, groupLow, groupHigh, storageMask, hn]
  | prs | int => cases hg

/-- Two modules of a group in one register are in the same half of the group (R50). -/
theorem inLowHalf_eq_of_moduleReg_eq {g : ModGroup} {m n : Nat} (h : moduleReg g m = moduleReg g n) :
    inLowHalf m = inLowHalf n := by
  have hne : groupLow g ≠ groupHigh g := by cases g <;> decide
  unfold moduleReg at h
  split at h <;> split at h
  · simp [*]
  · exact absurd h hne
  · exact absurd h hne.symm
  · simp [*]

/-- The modules in one half of a group have different bits (R50). -/
theorem eq_of_moduleBit_eq : ∀ k l : Fin 16, inLowHalf (17 + k.val) = inLowHalf (17 + l.val) →
    moduleBit (17 + k.val) = moduleBit (17 + l.val) → k = l := by
  decide

/-- Settles O39: two modules of a group differ in their register or in their bit. -/
theorem moduleWriteLeavesOtherModulesAlone : Obligations.ModuleWriteLeavesOtherModulesAlone := by
  intro s h g k l v hl hg hp hw hv hn
  obtain ⟨hmask, hsoft⟩ := moduleReg_of_groupWritable hw s.params (17 + k.val)
  have hm : (storageMask s.params (moduleReg g (17 + k.val))).getLsbD (moduleBit (17 + k.val)).toNat = true := by
    rw [hmask]
    exact BitVec.getLsbD_allOnes.trans (decide_eq_true (moduleBit _).isLt)
  obtain ⟨t, ht, hset⟩ := setsBit_of_rmw hl hg (setsig_reachesBus (g := .qsfp g k) hv hw) (setsig_runs_as_rmw rfl v)
    (regAt_addrOf hp _) hm (fun h => absurd h hsoft) (hn 0 (by decide)) (hn 1 (by decide))
  refine ⟨t, ht, ?_⟩
  by_cases hlk : l = k
  · rw [if_pos hlk, hlk, hset.storage, if_pos rfl]
  rw [if_neg hlk]
  by_cases hreg : moduleReg g (17 + l.val) = moduleReg g (17 + k.val)
  · have hbit : (moduleBit (17 + l.val)).toNat ≠ (moduleBit (17 + k.val)).toNat := fun h =>
      hlk (eq_of_moduleBit_eq l k (inLowHalf_eq_of_moduleReg_eq hreg) (BitVec.eq_of_toNat_eq h))
    rw [hreg, hset.storage, if_neg hbit]
  · rw [hset.others _ fun h => hreg (addrOf_injective hp h)]

end Sys2Proof.Machine
end

section
/-! SUPPORT. The Bring-Up Sequencer from end to end: what each of its ten steps does with its register, the state in
which an answered ATTACH ends in closed form, and what no ATTACH changes (spec/42_bringup.md). -/

namespace Sys2Proof.Machine

/-! ## ATTACH without the capability, DETACH, and the revision byte -/

/-- An ATTACH without the capability ends without a handle (R211). -/
theorem attachRun_of_cap_no {s : State} (hc : s.dropBinding.nextCap = .no) :
    attachRun s = { s.dropBinding.dropCap with
      life := .absent, bstep := none, active := none, phase := .idle,
      history := s.history ++ [.response s.caller (.fault .capabilityUnavailable)] } := by
  have hc' : s.beginAttach.nextCap = .no := hc
  simp only [attachRun, askCap, hc']
  rfl

/-- Settles O41. -/
theorem attachWithoutCapabilityProducesNoHandle : Obligations.AttachWithoutCapabilityProducesNoHandle := by
  intro s hl hc
  rw [exec_attach_of_handle_none s (handle_none_of_unbound hl), attachRun_of_cap_no hc]

/-- DETACH has no step while a request waits for the guard (R218, D21). -/
theorem exec_detach_of_waiting {s : State} {h : Handle} (hl : s.life = .attached h) (hw : s.waiting ≠ []) :
    exec .detach s = .refused .detachWhileWaiting := by
  simp [exec, execDetach, hl, hw]

/-- Settles O45. -/
theorem detachResult : Obligations.DetachResult := by
  intro s h hl
  refine ⟨fun hg hw => ?_, exec_detach_of_waiting hl⟩
  rw [exec_detach_of_waiting_nil s h hl hw, s.underGuard_free h _ _ hg]
  rfl

/-- Settles O10: the mask `0x3F` keeps the value modulo 64, and the shift by 6 divides it by 64. -/
theorem revisionByteSplits : Obligations.RevisionByteSplits := by
  intro b
  have hb : b.toNat < 256 := b.isLt
  constructor
  · have hver : (codeVerOf b).toNat = (b.toNat &&& (2 ^ 6 - 1)) % 2 ^ 6 := by
      rw [codeVerOf, BitVec.toNat_setWidth, BitVec.toNat_and]
      rfl
    rw [hver, Nat.and_two_pow_sub_one_eq_mod, Nat.mod_mod]
  · rw [codeTypeOf, BitVec.toNat_setWidth, BitVec.toNat_ushiftRight, Nat.shiftRight_eq_div_pow]
    omega

/-! ## What a step of the sequencer does with its register -/

@[simp] theorem readOf_ok (hw : Byte) (fx : List (Reg × Byte)) : readOf (.ok hw fx) = some hw := rfl
@[simp] theorem readOf_err (left : Byte) : readOf (.err left) = none := rfl
@[simp] theorem leftOf_ok (b hw : Byte) (fx : List (Reg × Byte)) : leftOf b (.ok hw fx) = b := rfl
@[simp] theorem leftOf_err (b left : Byte) : leftOf b (.err left) = left := rfl
@[simp] theorem diagOf_ok (d : Diag) (hw : Byte) (fx : List (Reg × Byte)) : diagOf d (.ok hw fx) = [] := rfl
@[simp] theorem diagOf_err (d : Diag) (left : Byte) : diagOf d (.err left) = [d] := rfl

/-- The six registers of the baseline (R214). -/
def baselineRegs : List Reg := [.rstLo, .rstHi, .lpmodeLo, .lpmodeHi, .modselLo, .modselHi]

/-- What one step of the sequencer does: it reads a register and captures the byte in the identity cells, or writes a
byte of the baseline to a register (R212 to R214). -/
inductive BusTask where
  | capture (r : Reg) (store : Byte → Ident → Ident)
  | baseline (r : Reg) (b : Byte)

namespace BusTask

/-- The task, with whether its transaction was answered. -/
def run : BusTask → State → Bool × State
  | .capture r store, s => endCapture store (s.xferRead (addrOf s.params r))
  | .baseline r b, s => endBaseline (s.xferWrite (addrOf s.params r) b)

/-- A capture reads a register without storage bits, and a baseline write is to one of the six registers. -/
def Fits : BusTask → Prop
  | .capture r _ => ∀ p, storageMask p r = 0x00#8
  | .baseline r _ => r ∈ baselineRegs

/-- The diagnostic events of the task when its transaction is answered by `a` (R215). -/
@[simp] def diags (p : Params) (a : BusAnswer) : BusTask → List Diag
  | .capture r _ => diagOf ⟨.rd, addrOf p r⟩ a
  | .baseline r _ => diagOf ⟨.wr, addrOf p r⟩ a

/-- The transaction of the task, answered by `a`, as the history records it (R102). -/
@[simp] def busEvent (p : Params) (a : BusAnswer) : BusTask → Event
  | .capture r _ => .read (addrOf p r) (readOf a)
  | .baseline r b => .write (addrOf p r) b (readOf a).isSome

/-- What the task records when its transaction is answered by `a` (R102). -/
def events (p : Params) (a : BusAnswer) (τ : BusTask) : List Event :=
  τ.busEvent p a :: (τ.diags p a).map .diag

/-- The byte that the task leaves in its register when its transaction is answered by `a` (R98, R99). -/
@[simp] def stores (a : BusAnswer) : BusTask → List (Reg × Byte)
  | .capture _ _ => []
  | .baseline r b => [(r, leftOf b a)]

/-- The identity cells after the task when its transaction is answered by `a`: a failed read leaves them as they were
(R215). -/
@[simp] def ident (a : BusAnswer) (d : Ident) : BusTask → Ident
  | .capture _ store => (readOf a).elim d (store · d)
  | .baseline _ _ => d

/-- The transaction of the task (R166). -/
@[simp] def txn (p : Params) : BusTask → Txn
  | .capture r _ => .rd (addrOf p r)
  | .baseline r b => .wr (addrOf p r) b

/-- The state after the task when its transaction is answered by `a`. -/
def next (τ : BusTask) (a : BusAnswer) (s : State) : State :=
  { s.dropAnswer with
    txn := none, phase := txnPhase (τ.txn s.params), csr := effectIn s.params s.csr (τ.stores a),
    life := s.life.onHandle fun h => { h with ident := τ.ident a h.ident, diag := h.diag ++ τ.diags s.params a },
    history := s.history ++ τ.events s.params a }

end BusTask

/-- The address of a register without storage bits reads as what the chip supplies (R97). -/
theorem readByte_addrOf_of_mask_zero {s : State} {r : Reg} (hp : validParams s.params = true)
    (hr : storageMask s.params r = 0x00#8) (hw : Byte) : s.readByte (addrOf s.params r) hw = hw := by
  obtain ⟨-, -, -, -, -, -, -, hzero⟩ := storageBitsOfEachRegister s.params
  obtain ⟨-, -, hread⟩ := hzero [] (addrOf s.params r) 0#8 [] r (regAt_addrOf hp r) hr
  exact hread s hw rfl

/-- The six registers of the baseline consist of storage bits (R34 to R39). -/
theorem storageMask_of_mem_baselineRegs {r : Reg} (hr : r ∈ baselineRegs) (p : Params) :
    storageMask p r = 0xFF#8 :=
  (storageBitsOfEachRegister p).2.1 r (List.mem_cons_of_mem _ hr)

/-- A successful write to a register of the baseline stores its byte and has no further effect (R98, R214). -/
theorem landIn_of_mem_baselineRegs {p : Params} {r : Reg} (hp : validParams p = true) (hr : r ∈ baselineRegs)
    (m : List Host.Cell) (b : Byte) (fx : List (Reg × Byte)) :
    landIn p m (addrOf p r) b fx = storeIn p m r b := by
  have hsoft : r ≠ .softRst := by
    rintro rfl
    revert hr
    decide
  exact landIn_of_not_fires (regAt_addrOf hp r) (by simp [firesSoftReset, hsoft]) m fx

/-- A task whose transaction is unanswered rests with it in flight (R101). -/
theorem BusTask.run_of_late (τ : BusTask) {s : State} (ha : s.nextAnswer = .late) :
    τ.run s = (false, (s.issue (τ.txn s.params)).dropAnswer) := by
  cases τ with
  | capture r store => rw [run, s.xferRead_late _ ha]; rfl
  | baseline r b => rw [run, s.xferWrite_late _ _ ha]; rfl

/-- A task whose transaction is answered (R215). -/
theorem BusTask.run_of_answered {τ : BusTask} {s : State} (hτ : τ.Fits) (hp : validParams s.params = true)
    (ha : isLate s.nextAnswer = false) : τ.run s = (true, τ.next s.nextAnswer s) := by
  cases τ with
  | capture r store =>
    cases h : s.nextAnswer with
    | late => simp [h, isLate] at ha
    | err left =>
      rw [run, s.xferRead_err _ left h]
      simp [endCapture, next, events, effectIn, State.addDiag, State.onHandle, State.log, afterTxn]
    | ok hw fx =>
      rw [run, s.xferRead_ok _ hw fx h, readByte_addrOf_of_mask_zero hp (hτ _)]
      simp [endCapture, next, events, effectIn, State.onIdent, State.onHandle, afterTxn]
  | baseline r b =>
    cases h : s.nextAnswer with
    | late => simp [h, isLate] at ha
    | err left =>
      rw [run, s.xferWrite_err _ b left h, failIn_of_regAt (regAt_addrOf hp r)]
      simp [endBaseline, next, events, effectIn, State.addDiag, State.onHandle, State.log, afterTxn]
    | ok hw fx =>
      rw [run, s.xferWrite_ok _ b hw fx h, landIn_of_mem_baselineRegs hp hτ]
      simp [endBaseline, next, events, effectIn, afterTxn, onHandle_id]

/-- The step `b` of the sequencer does the task `τ`. -/
structure BStep.Does (b : BStep) (τ : BusTask) : Prop where
  run : ∀ s, bringupStep b s = τ.run s
  fits : τ.Fits

/-- The ten tasks of the sequencer, in order (R210, R212 to R214). -/
def bringupTasks : List BusTask :=
  [.capture .rev captureRev, .capture .day captureDay, .capture .month captureMonth, .capture .year captureYear,
    .baseline .rstLo 0xFF#8, .baseline .rstHi 0xFF#8, .baseline .lpmodeLo 0x00#8, .baseline .lpmodeHi 0x00#8,
    .baseline .modselLo 0x00#8, .baseline .modselHi 0x00#8]

/-- The steps of the sequencer do the ten tasks (R210). -/
theorem bringupOrder_does : List.Forall₂ BStep.Does bringupOrder bringupTasks := by
  iterate 4 refine .cons ⟨fun _ => rfl, fun _ => rfl⟩ ?_
  iterate 6 refine .cons ⟨fun _ => rfl, by simp [BusTask.Fits, baselineRegs]⟩ ?_
  exact .nil

/-! ## The end of an answered ATTACH -/

/-- The inputs left after `n` answers of the transport (R96). -/
theorem dropAnswers_eq (s : State) (n : Nat) :
    s.dropAnswers n = { s with bus := s.bus.drop n, draws := s.draws + (n - s.bus.length) } := by
  induction n generalizing s with
  | zero => simp [State.dropAnswers]
  | succ n ih =>
    rw [State.dropAnswers, ih]
    cases hb : s.bus <;> simp [State.dropAnswer, hb, Nat.add_assoc, Nat.add_comm 1]

/-- The state in which an ATTACH has ended that had the tasks of `tr` to do in the state `s` with the handle `h`, each
answered as `tr` says (R210, R215). -/
def State.attachEnd (s : State) (h : Handle) (tr : List (BusTask × BusAnswer)) : State :=
  { s.settled tr.length (tr.flatMap (fun t => t.1.events s.params t.2) ++ [.response s.caller .ok]) with
    life := .attached ⟨h.endpoint, .free, tr.foldl (fun d t => t.1.ident t.2 d) h.ident,
      h.diag ++ tr.flatMap fun t => t.1.diags s.params t.2⟩,
    bstep := some .done, csr := effectIn s.params s.csr (tr.flatMap fun t => t.1.stores t.2) }

/-- After the task of a step an ATTACH ends as it ends with that task before the others. -/
theorem attachEnd_next (s : State) (b : BStep) (h : Handle) (τ : BusTask) (a : BusAnswer)
    (tr : List (BusTask × BusAnswer)) :
    (τ.next a (s.atStep b)).attachEnd
        { h with ident := τ.ident a h.ident, diag := h.diag ++ τ.diags s.params a } tr
      = s.attachEnd h ((τ, a) :: tr) := by
  have hinputs : s.dropAnswers (tr.length + 1) = s.dropAnswer.dropAnswers tr.length := rfl
  simp [State.attachEnd, State.settled, hinputs, dropAnswers_eq, BusTask.next, State.atStep, effectIn_append]

/-- The sequencer whose transactions are all answered, in closed form (R210, R215). -/
theorem runBringup_of_answered {l : List BStep} {tr : List (BusTask × BusAnswer)} {s : State} {h : Handle}
    (hdo : List.Forall₂ (fun b t => BStep.Does b t.1) l tr) (hp : validParams s.params = true)
    (hl : s.life = .bringup h) (ha : ∀ k t, tr[k]? = some t → s.answerAt k = t.2)
    (hn : ∀ t ∈ tr, isLate t.2 = false) : runBringup l s = s.attachEnd h tr := by
  induction hdo generalizing s h with
  | nil =>
    simp [runBringup, State.bringupDone, State.attachEnd, State.settled, State.dropAnswers, State.respond, State.log,
      State.release, State.onHandle, hl, Life.toAttached, effectIn]
  | @cons b t l tr hb _ ih =>
    obtain ⟨τ, a⟩ := t
    rw [List.forall_mem_cons] at hn
    have hfirst : (s.atStep b).nextAnswer = a := ha 0 (τ, a) rfl
    have hrun : τ.run (s.atStep b) = (true, τ.next a (s.atStep b)) :=
      hfirst ▸ BusTask.run_of_answered hb.fits hp (hfirst ▸ hn.1)
    have hrest (k : Nat) (t : BusTask × BusAnswer) (ht : tr[k]? = some t) :
        (τ.next a (s.atStep b)).answerAt k = t.2 :=
      (answerAt_congr (s := s.dropAnswer) (t := τ.next a (s.atStep b)) rfl rfl k).trans (ha (k + 1) t ht)
    have hlife : (τ.next a (s.atStep b)).life
        = .bringup { h with ident := τ.ident a h.ident, diag := h.diag ++ τ.diags s.params a } := by
      simp [BusTask.next, State.atStep, hl]
    rw [runBringup_cons, hb.run, hrun, if_pos rfl, ih (s := τ.next a (s.atStep b)) hp hlife hrest hn.2]
    exact attachEnd_next s b h τ a tr

/-- The ten tasks of an ATTACH with the answers that the transport gives from `s` on. -/
def State.attachTrace (s : State) : List (BusTask × BusAnswer) :=
  bringupTasks.zipIdx.map fun t => (t.1, s.answerAt t.2)

/-- The `k`-th task of an ATTACH has the `k`-th answer. -/
theorem attachTrace_getElem? {s : State} {k : Nat} {t : BusTask × BusAnswer} (h : s.attachTrace[k]? = some t) :
    t.2 = s.answerAt k ∧ k < 10 := by
  obtain ⟨hk, rfl⟩ := List.getElem?_eq_some_iff.mp h
  exact ⟨by simp [State.attachTrace], hk⟩

/-- An ATTACH whose ten transactions are all answered, in closed form (R210, R215). -/
theorem exec_attach_of_answered {s s0 : State} (hl : s.life = .absent ∨ s.life = .detached)
    (hc : s.dropBinding.nextCap = .yes) (hp : validParams s.params = true) (h0 : s0 = s.dropBinding.dropCap)
    (ha : ∀ k, k < 10 → isLate (s0.answerAt k) = false) :
    exec .attach s = .next (s0.attachEnd (Handle.fresh s.nextBinding) s0.attachTrace) := by
  subst h0
  have hdo : List.Forall₂ (fun b t => BStep.Does b t.1) bringupOrder s.dropBinding.dropCap.attachTrace :=
    (List.forall₂_map_right_iff (f := Prod.fst)).mp bringupOrder_does
  have hans (k : Nat) (t : BusTask × BusAnswer) (ht : s.dropBinding.dropCap.attachTrace[k]? = some t) :
      s.attachGranted.answerAt k = t.2 := by
    rw [(attachTrace_getElem? ht).1]
    exact answerAt_congr (s := s.dropBinding.dropCap) (t := s.attachGranted) rfl rfl k
  have hanswered : ∀ t ∈ s.dropBinding.dropCap.attachTrace, isLate t.2 = false := by
    intro t ht
    obtain ⟨k, hk⟩ := List.mem_iff_getElem?.mp ht
    obtain ⟨htk, hlt⟩ := attachTrace_getElem? hk
    rw [htk]
    exact ha k hlt
  rw [exec_attach_of_handle_none s (handle_none_of_unbound hl), attachRun_of_cap_yes hc,
    runBringup_of_answered (s := s.attachGranted) hdo hp rfl hans hanswered]
  rfl

/-! ## What an answered ATTACH leaves in the registers and in the handle -/

/-- Of a list of stores to distinct registers each leaves its byte (R98). -/
theorem storedIn_effectIn_of_mem {p : Params} {fx : List (Reg × Byte)} {r : Reg} {x : Byte}
    (hp : validParams p = true) (hn : (fx.map Prod.fst).Nodup) (hm : (r, x) ∈ fx) (m : List Host.Cell) :
    storedIn p (effectIn p m fx) r &&& storageMask p r = x &&& storageMask p r := by
  obtain ⟨front, back, rfl⟩ := List.append_of_mem hm
  rw [effectIn_append]
  refine storedIn_effectIn_storeIn p _ r x back fun c hc hcr => ?_
  simp only [List.map_append, List.map_cons, List.nodup_append, List.nodup_cons] at hn
  exact hn.2.1.1 (List.mem_map.mpr ⟨c, hc, addrOf_injective hp hcr⟩)

/-- The bytes that the tasks of an ATTACH leave in the registers of the baseline, with the answers that the transport
gives from `s` on (R214, R215). -/
def State.baselineLeft (s : State) : List (Reg × Byte) :=
  [(.rstLo, leftOf 0xFF#8 (s.answerAt 4)), (.rstHi, leftOf 0xFF#8 (s.answerAt 5)),
    (.lpmodeLo, leftOf 0x00#8 (s.answerAt 6)), (.lpmodeHi, leftOf 0x00#8 (s.answerAt 7)),
    (.modselLo, leftOf 0x00#8 (s.answerAt 8)), (.modselHi, leftOf 0x00#8 (s.answerAt 9))]

theorem attachEnd_csr (s : State) (h : Handle) :
    (s.attachEnd h s.attachTrace).csr = effectIn s.params s.csr s.baselineLeft := rfl

theorem attachEnd_params (s : State) (h : Handle) (tr : List (BusTask × BusAnswer)) :
    (s.attachEnd h tr).params = s.params := by
  simp [State.attachEnd, State.settled, dropAnswers_eq]

/-- Each register of the baseline holds what its write has left (R214, R215). -/
theorem attachEnd_storage {s : State} {h : Handle} {r : Reg} {x : Byte} (hp : validParams s.params = true)
    (hm : (r, x) ∈ s.baselineLeft) : (s.attachEnd h s.attachTrace).storage r = x := by
  have hregs : s.baselineLeft.map Prod.fst = baselineRegs := rfl
  have hmem : r ∈ baselineRegs := hregs ▸ List.mem_map_of_mem (f := Prod.fst) hm
  have hmask : storageMask s.params r = BitVec.allOnes 8 := storageMask_of_mem_baselineRegs hmem s.params
  have hstored := storedIn_effectIn_of_mem hp (hregs ▸ by decide) hm s.csr
  rw [hmask] at hstored
  rw [State.storage, attachEnd_csr, attachEnd_params, hmask, hstored, BitVec.and_allOnes]

/-- Every register but the six keeps its storage bits (R214). -/
theorem attachEnd_storage_other {s : State} {h : Handle} {r : Reg} (hp : validParams s.params = true)
    (hr : r ∉ baselineRegs) : (s.attachEnd h s.attachTrace).storage r = s.storage r := by
  have hother : ∀ c ∈ s.baselineLeft, addrOf s.params c.1 ≠ addrOf s.params r := fun c hc hcr =>
    hr (addrOf_injective hp hcr ▸ List.mem_map_of_mem (f := Prod.fst) hc)
  simp only [State.storage, attachEnd_params, attachEnd_csr, storedIn, read_effectIn_other _ _ _ _ hother]

/-- The storage bits of the six registers after an answered ATTACH (R214, R215). -/
theorem attachEnd_baseline {s : State} (h : Handle) (hp : validParams s.params = true) :
    (s.attachEnd h s.attachTrace).storage .rstLo = leftOf 0xFF#8 (s.answerAt 4)
    ∧ (s.attachEnd h s.attachTrace).storage .rstHi = leftOf 0xFF#8 (s.answerAt 5)
    ∧ (s.attachEnd h s.attachTrace).storage .lpmodeLo = leftOf 0x00#8 (s.answerAt 6)
    ∧ (s.attachEnd h s.attachTrace).storage .lpmodeHi = leftOf 0x00#8 (s.answerAt 7)
    ∧ (s.attachEnd h s.attachTrace).storage .modselLo = leftOf 0x00#8 (s.answerAt 8)
    ∧ (s.attachEnd h s.attachTrace).storage .modselHi = leftOf 0x00#8 (s.answerAt 9) := by
  refine ⟨?_, ?_, ?_, ?_, ?_, ?_⟩ <;> exact attachEnd_storage hp (by simp [State.baselineLeft])

/-- The identity cells that an answered ATTACH fills from the empty ones: each holds what its read returned (R212, R213,
R215). -/
theorem attachTrace_ident (s : State) :
    s.attachTrace.foldl (fun d t => t.1.ident t.2 d) Ident.empty
      = ⟨(readOf (s.answerAt 0)).map codeVerOf, (readOf (s.answerAt 0)).map codeTypeOf, readOf (s.answerAt 1),
        readOf (s.answerAt 2), readOf (s.answerAt 3)⟩ := by
  simp only [State.attachTrace, bringupTasks, List.zipIdx, List.map_cons, List.foldl_cons, BusTask.ident]
  cases readOf (s.answerAt 0) <;> cases readOf (s.answerAt 1) <;> cases readOf (s.answerAt 2) <;>
    cases readOf (s.answerAt 3) <;> rfl

/-- Each task records one transaction (R102). -/
theorem busEvents_events (p : Params) (a : BusAnswer) (τ : BusTask) :
    busEvents (τ.events p a) = [τ.busEvent p a] := by
  have hbus : isBusEvent (τ.busEvent p a) = true := by cases τ <;> rfl
  have hdiags : ((τ.diags p a).map Event.diag).filter isBusEvent = [] := by simp [List.filter_map, Function.comp_def]
  simp only [busEvents, BusTask.events, List.filter_cons_of_pos hbus, hdiags]

/-- An answered ATTACH has ten transactions (R210). -/
theorem busEvents_attachTrace (p : Params) (s : State) :
    (busEvents (s.attachTrace.flatMap fun t => t.1.events p t.2)).length = 10 := by
  have hbus : busEvents (s.attachTrace.flatMap fun t => t.1.events p t.2)
      = s.attachTrace.flatMap fun t => [t.1.busEvent p t.2] := by
    rw [busEvents, List.filter_flatMap]
    exact List.flatMap_congr fun t _ => busEvents_events p t.2 t.1
  rw [hbus]
  rfl

/-- Settles O43: an answered ATTACH in closed form, read field by field. -/
theorem attachIsBestEffort : Obligations.AttachIsBestEffort := by
  rintro s _ hl hc hp rfl ha
  refine ⟨_, _, exec_attach_of_answered hl hc hp rfl ha, (List.append_assoc _ _ _).symm,
    busEvents_attachTrace _ _, ?_, attachEnd_baseline _ hp⟩
  simp only [State.attachEnd, Handle.fresh, attachTrace_ident]
  simp [State.attachTrace, bringupTasks]

/-- A read that returns a byte was answered with success, and with that byte (R97). -/
theorem eq_ok_of_readOf {a : BusAnswer} {x : Byte} (h : readOf a = some x) : ∃ fx, a = .ok x fx := by
  cases a with
  | ok hw fx => exact ⟨fx, by rw [Option.some.inj h]⟩
  | err | late => cases h

/-- Settles O42: an ATTACH whose ten transactions succeed, in closed form; the stores leave every register but the six
as it was. -/
theorem faultFreeAttachSetsTheBaseline : Obligations.FaultFreeAttachSetsTheBaseline := by
  rintro s s0 rev day month year hl hc hp rfl hrev hday hmonth hyear hwr
  obtain ⟨_, h0⟩ := eq_ok_of_readOf hrev
  obtain ⟨_, h1⟩ := eq_ok_of_readOf hday
  obtain ⟨_, h2⟩ := eq_ok_of_readOf hmonth
  obtain ⟨_, h3⟩ := eq_ok_of_readOf hyear
  obtain ⟨_, _, h4⟩ := hwr 4 (by decide) (by decide)
  obtain ⟨_, _, h5⟩ := hwr 5 (by decide) (by decide)
  obtain ⟨_, _, h6⟩ := hwr 6 (by decide) (by decide)
  obtain ⟨_, _, h7⟩ := hwr 7 (by decide) (by decide)
  obtain ⟨_, _, h8⟩ := hwr 8 (by decide) (by decide)
  obtain ⟨_, _, h9⟩ := hwr 9 (by decide) (by decide)
  have ha (k : Nat) (hk : k < 10) : isLate (s.dropBinding.dropCap.answerAt k) = false := by
    interval_cases k <;> simp only [h0, h1, h2, h3, h4, h5, h6, h7, h8, h9, isLate]
  have hbase := attachEnd_baseline (s := s.dropBinding.dropCap) (Handle.fresh s.nextBinding) hp
  rw [h4, h5, h6, h7, h8, h9] at hbase
  obtain ⟨hrstLo, hrstHi, hlpmodeLo, hlpmodeHi, hmodselLo, hmodselHi⟩ := hbase
  refine ⟨_, exec_attach_of_answered hl hc hp rfl ha, ?_, hrstLo, hrstHi, hlpmodeLo, hlpmodeHi, hmodselLo, hmodselHi,
    fun r => attachEnd_storage_other (s := s.dropBinding.dropCap) hp⟩
  simp only [State.attachEnd, Handle.fresh, attachTrace_ident]
  simp [State.attachTrace, bringupTasks, BusTask.events, h0, h1, h2, h3, h4, h5, h6, h7, h8, h9]

/-! ## What ATTACH leaves unchanged -/

/-- From `s` to `t` the register space changes at the six registers of the baseline at most, and the parameters, the
requests, the grants and the requester being served stay (R214). -/
structure AttachKeeps (s t : State) : Prop where
  csr : ∀ x : Byte, (∀ r ∈ baselineRegs, addrOf s.params r ≠ x) →
    Memory.read t.csr x.toNat = Memory.read s.csr x.toNat
  params : t.params = s.params
  waiting : t.waiting = s.waiting
  port : t.port = s.port
  grants : t.grants = s.grants
  caller : t.caller = s.caller

theorem AttachKeeps.trans {s t u : State} (h : AttachKeeps s t) (h' : AttachKeeps t u) : AttachKeeps s u where
  csr x hx := (h'.csr x (h.params ▸ hx)).trans (h.csr x hx)
  params := h'.params.trans h.params
  waiting := h'.waiting.trans h.waiting
  port := h'.port.trans h.port
  grants := h'.grants.trans h.grants
  caller := h'.caller.trans h.caller

/-- A change of the handle, the sequencing state, the inputs and the history only. -/
theorem AttachKeeps.of_eq {s : State} {l : Life} {c : Option Byte} {b : Option BStep} {ph : Phase} {ac : Option Op}
    {x : Option Txn} {bus : List BusAnswer} {e : List Endpoint} {ca : List CapAnswer} {n : Nat} {es : List Event} :
    AttachKeeps s { s with
      life := l, cur := c, bstep := b, phase := ph, active := ac, txn := x, bus := bus, bindings := e, caps := ca,
      draws := n, history := es } :=
  ⟨fun _ _ => rfl, rfl, rfl, rfl, rfl, rfl⟩

/-- An answered task stores to its own register at most (R98, R99). -/
theorem BusTask.next_keeps {τ : BusTask} (hτ : τ.Fits) (a : BusAnswer) (s : State) :
    AttachKeeps s (τ.next a s) where
  csr x hx := by
    refine read_effectIn_other _ _ _ x fun c hc => ?_
    cases τ with
    | capture r store => cases hc
    | baseline r b =>
      cases List.mem_singleton.mp hc
      exact hx r hτ
  params := rfl
  waiting := rfl
  port := rfl
  grants := rfl
  caller := rfl

/-- The sequencer, wherever it rests, keeps the frame of ATTACH. -/
theorem runBringup_keeps {l : List BStep} {ts : List BusTask} (hdo : List.Forall₂ BStep.Does l ts) {s : State}
    (hp : validParams s.params = true) : AttachKeeps s (runBringup l s) := by
  induction hdo generalizing s with
  | nil => exact .of_eq
  | @cons b τ l ts hb _ ih =>
    have hat : AttachKeeps s (s.atStep b) := .of_eq
    refine hat.trans ?_
    rw [runBringup_cons, hb.run]
    cases ha : isLate (s.atStep b).nextAnswer with
    | true =>
      rw [τ.run_of_late ((isLate_iff _).mp ha)]
      exact .of_eq
    | false =>
      rw [BusTask.run_of_answered (s := s.atStep b) hb.fits hp ha]
      exact (τ.next_keeps hb.fits _ _).trans (ih hp)

theorem attachRun_keeps {s : State} (hp : validParams s.params = true) : AttachKeeps s (attachRun s) := by
  obtain ⟨-, h⟩ | ⟨-, h⟩ | ⟨-, h⟩ := askCap_cases s.beginAttach <;> rw [attachRun, h]
  · exact .of_eq
  · have hgranted : AttachKeeps s s.attachGranted := .of_eq
    exact hgranted.trans (runBringup_keeps bringupOrder_does hp)
  · exact .of_eq

/-- Settles O44. -/
theorem attachFrame : Obligations.AttachFrame := by
  intro s t ht hp
  have hkeeps : AttachKeeps s t := by
    cases hn : s.life.handle? with
    | none =>
      rw [exec_attach_of_handle_none s hn, Host.Outcome.next.injEq] at ht
      exact ht ▸ attachRun_keeps hp
    | some h => simp [exec_attach_of_handle_some s h hn] at ht
  exact ⟨hkeeps.csr, hkeeps.params, hkeeps.waiting, hkeeps.port, hkeeps.grants, hkeeps.caller⟩

end Sys2Proof.Machine
end

section
/-! SUPPORT. Hazards and reset: how many transactions an operation has, that none interleaves with the one in flight,
and the machine before its first request (spec/70_reset_and_hazards.md). -/

namespace Sys2Proof.Machine

/-! ## Transaction counts (R295) -/

/-- An operation that goes to the bus has two transactions where the one it has in flight depends on the latch, as for a
read-modify-write, and else one (R183, R295). -/
theorem txnCount_of_reachesBus {p : Params} {i : Instr} (hi : reachesBus p i = true) :
    txnCount p i = if expectedTxn p i none none = expectedTxn p i (some 0x00#8) none then 1 else 2 := by
  cases i with
  | rdreg | wrreg | getbit | getsig => exact (if_pos rfl).symm
  | setbit d v => simp [txnCount, expectedTxn, rmwTxn]
  | setsig g v =>
    cases hk : sigKind p g with
    | bit r j => simp [txnCount, expectedTxn, rmwTxn, hk]
    | byte r => simp [txnCount, expectedTxn, hk]
    | ident f =>
      rw [eq_ident_of_sigKind hk] at hi
      simp [reachesBus, sigWritable] at hi
  | attach | detach => cases hi

/-- An operation that takes the free guard and whose transactions succeed records as many of them as it is said to
have (R295). -/
theorem exec_txnCount_of_ok {s : State} {h : Handle} {i : Instr} {hw hw' : Byte} {fx fx' : List (Reg × Byte)}
    (hl : s.life = .attached h) (hg : h.guard = .free) (hi : reachesBus s.params i = true) (ha : i ≠ .attach)
    (hd : i ≠ .detach) (hn : s.answerAt 0 = .ok hw fx) (hn' : s.answerAt 1 = .ok hw' fx') :
    ∃ t es, exec i s = .next t ∧ t.history = s.history ++ es ∧ (busEvents es).length = txnCount s.params i := by
  rw [txnCount_of_reachesBus hi]
  cases bodyForm i (s.acquire i) ha hd with
  | read a f hb hx =>
    rw [State.acquire_params] at hx
    exact ⟨_, _, exec_read_of_ok hl hg hi hb hn, rfl, by rw [hx, hx, if_pos rfl]; rfl⟩
  | write a v hb hx =>
    rw [State.acquire_params] at hx
    exact ⟨_, _, exec_write_of_ok hl hg hi hb hn, rfl, by rw [hx, hx, if_pos rfl]; rfl⟩
  | modify a j v hb hx =>
    rw [State.acquire_params] at hx
    exact ⟨_, _, exec_rmw_of_ok hl hg hi hb hn hn', rfl, by rw [hx, hx, if_neg (by simp [rmwTxn])]; rfl⟩
  | nothing _ hx => exact absurd (hx none none) (expectedTxn_of_reachesBus hi _ _)

/-- Settles O40: an operation that goes to the bus is one read, one write or a read-modify-write; the others are only
answered. -/
theorem transactionCountsAreExact : Obligations.TransactionCountsAreExact := by
  intro s h i hl hg hd ha hn
  cases hi : reachesBus s.params i with
  | true =>
    obtain ⟨_, _, h0⟩ := hn 0 (by decide)
    obtain ⟨_, _, h1⟩ := hn 1 (by decide)
    exact exec_txnCount_of_ok hl hg hi ha hd h0 h1
  | false =>
    obtain ⟨r, hr⟩ := exec_of_not_reachesBus s h i hl hi ha hd
    exact ⟨_, [.response s.caller r], hr, rfl, rfl⟩

/-! ## The operation in flight (R85, R285) -/

/-- Settles O55: while the transport is silent a request that is taken up waits for the guard or is answered before
it. -/
theorem nothingInterleavesWithTheOperationInFlight : Obligations.NothingInterleavesWithTheOperationInFlight := by
  intro s s' op hg ha hs hstep
  have hu := step_undisturbed_of_silent hg ha hs hstep
  exact ⟨hu.active.trans ha, hu.txn, hu.cur, hu.csr, hu.history⟩

/-! ## Reset and the idle machine (R281) -/

/-- Settles O49: there is no handle, so ATTACH runs and every other operation is refused. -/
theorem resetStateIsAbsentAndIdle : Obligations.ResetStateIsAbsentAndIdle :=
  ⟨rfl, rfl, rfl, rfl, rfl, rfl, rfl, rfl, rfl, fun i hi => exec_of_not_attached _ i hi nofun,
    _, exec_attach_of_handle_none _ rfl⟩

/-- With no request at the port the core waits (R20). -/
theorem serveNext_of_port_nil {s : State} (hp : s.port = []) : serveNext s = .next s := by
  simp [serveNext, hp]

/-- Settles O50. -/
theorem stepWithoutRequestChangesNothing : Obligations.StepWithoutRequestChangesNothing := by
  refine ⟨⟨rfl, rfl, rfl⟩, fun s ha hw hp => ?_⟩
  rw [step_of_waiting_nil ha hw, serveNext_of_port_nil hp]

end Sys2Proof.Machine
end

section
/-! SUPPORT. Invalid words where no handle is attached: such a word is not taken from the port, for it has no step
(spec/95_test_vectors.md section 2.6, log entry 6). -/

namespace Sys2Proof.Machine

/-- Without an attached handle nothing but ATTACH is accepted (R24). -/
theorem State.accepted_of_not_attached {s : State} (hl : ∀ h, s.life ≠ .attached h) (k : Handle → State) :
    s.accepted k = .refused .notAccepted := by
  cases hs : s.life with
  | attached h => exact absurd hs (hl h)
  | absent | bringup h | detached => simp [State.accepted, hs]

/-- Outside ATTACHED an invalid word at the head of the port has no step. -/
theorem serveNext_of_invalid_of_not_attached {s : State} {r : Request} {rest : List Request} {e : DecodeError}
    (hp : s.port = r :: rest) (hd : decode r.word = .error e) (hl : ∀ h, s.life ≠ .attached h) :
    serveNext s = .refused .notAccepted := by
  simp only [serveNext, hp, serveRequest, hd, illegalRequest]
  exact State.accepted_of_not_attached hl _

/-- Settles O14. -/
theorem invalidWordHasNoStepWithoutHandle : Obligations.InvalidWordHasNoStepWithoutHandle := by
  intro s r rest e hp hd ha hw hl
  have hnot : ∀ h, s.life ≠ .attached h := by
    obtain hl | hl := hl <;> simp [hl]
  rw [step_of_waiting_nil ha hw]
  exact serveNext_of_invalid_of_not_attached hp hd hnot

end Sys2Proof.Machine
end
